-- ==== Sys2Proof/Word.lean ====
section
/-! DEFINITION. The byte of the trail bus and the two line levels (spec 01, R1, R2). -/

namespace Sys2Proof

/-- One byte on the trail bus (R2). -/
abbrev Byte := BitVec 8

/-- The level of the line in one bit time (R1): dominant is logic 0, recessive logic 1. -/
inductive LineLevel where
  | dominant
  | recessive
  deriving DecidableEq, Repr

end Sys2Proof
end

