-- ==== Sys2Proof/Syntax.lean ====
section
/-! DEFINITION. The commands of the LC24: one constructor per row of spec/opcode_table.json, with the readings and
bytes that a step takes from outside as operands. -/

namespace Sys2Proof

/-- The eight positions of Table 0-1. -/
inductive Position where
  | fl | fr | ml | mr | rl | rr | ca | cb
  deriving DecidableEq, Repr

/-- The four lamp channels L0 to L3 (Table 0-4). -/
inductive Lamp where
  | l0 | l1 | l2 | l3
  deriving DecidableEq, Repr

/-- One value for each of four like things: the lamp channels, or the cell taps C1 to C4. -/
structure Quad (α : Type) where
  l0 : α
  l1 : α
  l2 : α
  l3 : α
  deriving DecidableEq, Repr

/-- The four kinds of frame the node sends, one transmit slot each (R12). -/
inductive TxKind where
  | winch | report | beat | answer
  deriving DecidableEq, Repr

/-- How a reception in progress fails: the failing rows of Table 1-3 (R7). -/
inductive RxFail where
  /-- A start bit reads recessive where the header or the length byte is due: framing. -/
  | startHeaderOrLength
  /-- A start bit reads recessive where a payload or the CRC byte is due: format. -/
  | startPayloadOrCrc
  /-- The header's stop bit reads dominant: framing. An own attempt has lost arbitration in that bit time (R16). -/
  | headerStopBit
  /-- The stop bit of a later byte reads dominant: framing. -/
  | stopBit
  /-- A length byte above 12 is read: format. -/
  | lengthAbove12
  /-- The first end bit reads dominant: framing. -/
  | endBit
  deriving DecidableEq, Repr

/-- The direction of an encoder edge (R132); on the winch position forward is haul (R153). -/
inductive Direction where
  | forward | reverse
  deriving DecidableEq, Repr

/-- What a limit switch input reads (R151). -/
inductive SwitchLevel where
  | opened | closed
  deriving DecidableEq, Repr

/-- The two temperature sensors (R198). -/
inductive Sensor where
  | ts1 | die
  deriving DecidableEq, Repr

/-- The readings of stage 0 of the budget tick (R78, R86): VPACK in mV, the mean magnitudes of the six consumer
currents over the last 10 ms in dA, and the cell taps C1 to C4 in mV. -/
structure BudgetReadings where
  vpack : Int
  isa : Nat
  isb : Nat
  lamps : Quad Nat
  cells : Quad Nat
  deriving DecidableEq, Repr

/-- The commands of the block: the rows of spec/opcode_table.json, in the table's order. A command that takes a frame
takes the oldest frame of the receive queue (R11); the frame is no operand. -/
inductive Instr where
  | powerOnReset
  | busIdle
  /-- The bytes of a complete frame as read: header, length, payload, CRC. -/
  | frameReceived (bytes : List Byte)
  | receptionFailed (how : RxFail)
  | breakRecognised
  | attemptStart
  | arbitrationLost
  | lineFault
  | collision
  /-- The slot whose committed frame's backoff ends. -/
  | backoffExpiry (kind : TxKind)
  | attemptComplete
  | breakEnd
  /-- The band in which eight consecutive samples fell. -/
  | strapReadSuccess (pos : Position)
  /-- The band of the last sample that fell in any band, none if none did. -/
  | strapReadFail (last : Option Position)
  | silenceTimerExpiry
  | defaultTimerExpiry
  | config
  | assign
  | ownStationFrame
  | conflictNoticeTimer
  | uptimeTick
  | reportTimerExpiry
  | heldEventSpacingExpiry
  | report
  /-- The station whose entry reaches LOST. -/
  | peerLost (station : Nat)
  | winch
  | winchLinkExpiry
  | checkRecord
  | fault
  | winchLog
  | counters
  | image
  | budget
  | restart
  | recheck
  | queryUnknownCode
  | command
  | linkExpiry
  | failsafeStage2
  | budgetTick (readings : BudgetReadings)
  | peerCutoffTest
  /-- POT in counts; the averaged bridge B current over the 5 ms, dA. -/
  | actuatorTick (pot isb : Nat)
  | steerStall
  | stallLimitEnd
  /-- The POT reading of the 20th sample. -/
  | steerSensorLost (pot : Nat)
  /-- The averaged bridge A current over the 5 ms, dA. -/
  | driveTick (isa : Nat)
  /-- The edge's direction and the time since the last edge, µs. -/
  | encoderEdge (dir : Direction) (interval : Nat)
  | encoderEdgeTimeout
  | encoderLost
  | encoderRecovered
  /-- The current sensed at ISA, dA. -/
  | overcurrentTrip (current : Nat)
  | tripWaitEnd
  /-- The averaged bridge A and bridge B currents over the 5 ms, dA. -/
  | controlTick (isa isb : Nat)
  /-- The levels accepted at this sample, none for an input that accepts nothing. -/
  | limitAcceptance (sw0 sw1 : Option SwitchLevel)
  | engageDelayEnd
  | winchStall
  | winchTimerExpiry
  | beatEvent
  | beatTaken
  /-- The channel and the current sensed, dA. -/
  | lampShort (lamp : Lamp) (current : Nat)
  /-- VPACK as read, mV. -/
  | supplyTestRetry (vpack : Int)
  /-- The level the bridge's outputs read at the end of the 2 ms, and VPACK, mV. -/
  | pullTestEnd (out vpack : Int)
  /-- The mean current of the last 1 ms of the pulse, dA. -/
  | loadPulseEnd (current : Nat)
  /-- The current sensed during the pulse, dA. -/
  | loadPulseTrip (current : Nat)
  /-- The level of the channel pin at the end of the 2 ms, and VPACK, mV. -/
  | lampPresenceTestEnd (pin vpack : Int)
  /-- The mean channel current over the 20 ms, dA. -/
  | lampRatingEnd (mean : Nat)
  /-- The current sensed during the 20 ms, dA. -/
  | lampRatingShort (current : Nat)
  /-- The POT reading at the stop. -/
  | sweepStopFound (pot : Nat)
  | sweepPhaseTimeout
  | sweepFault
  | sweepReturnEnd
  /-- VPACK as read, mV. -/
  | supplyDip (vpack : Int)
  /-- The current sensed at ISB, dA. -/
  | bridgeBTrip (current : Nat)
  | bridgeBTripWaitEnd
  /-- The two readings in °C. -/
  | temperatureReading (ts1 die : Int)
  /-- The sensor and its last reading, °C. -/
  | thermalSensorFault (sensor : Sensor) (reading : Int)
  | frameStart
  | pwmPeriodBoundary
  deriving DecidableEq, Repr

end Sys2Proof
end

