-- ==== Sys2Proof/Decode.lean ====
section
/-! DEFINITION. The table gives no row any bits, so no word spells a command (log 7). -/

namespace Sys2Proof

/-- The command a word spells: none, since spec/opcode_table.json gives no row bits (log 7). -/
def decodeTableWord (_nbits _w : Nat) : Option Instr := none

end Sys2Proof
end

