-- ==== Sys2Proof/Config.lean ====
section
/-! DEFINITION. What the part fixes and the manual gives no value for. -/

namespace Sys2Proof

/-- The 24-bit die serial, fixed in the part (spec 02, R39). The manual gives no value: a free constant (log 6). -/
opaque Config.dieSerial : BitVec 24

end Sys2Proof
end

