-- ==== Sys2Proof/Machine/State.lean ====
section
/-! DEFINITION. Every piece of state the manual gives the LC24, as plain data, and the state after power-on reset.
The list with rules, widths and reset values is INVENTORY.md, State. -/

namespace Sys2Proof.Machine

/-! ## Names -/

/-- The kinds of frame (Table 1-2). -/
inductive FrameKind where
  | assign | command | winch | report | beat | config | query | answer
  deriving DecidableEq, Repr

/-- The node states (Table 2-2). -/
inductive NodeState where
  | strap | listen | check | safe | run | failsafe | cutoff | conflict
  deriving DecidableEq, Repr

/-- The protection levels, best to worst. -/
inductive Protection where
  | normal | derate | limp | cutoff
  deriving DecidableEq, Repr

/-- The causes of CUTOFF (Table 5-13). -/
inductive CutoffCause where
  | ownCell | ownPack | breakHeard | peer
  deriving DecidableEq, Repr

/-- The causes of CONFLICT (R31). -/
inductive ConflictCause where
  | strap | duplicate
  deriving DecidableEq, Repr

/-- The steering modes (Table 4-1). -/
inductive SteerMode where
  | front | rear | counter | crab
  deriving DecidableEq, Repr

/-- The lights modes (Table 4-1). -/
inductive LightsMode where
  | off | marker | drive | full
  deriving DecidableEq, Repr

/-- Failsafe stage: none, 1 or 2 (spec 04). -/
inductive FailsafeStage where
  | none | one | two
  deriving DecidableEq, Repr

/-- The lamp functions (Table 9-6, Table 11-12). -/
inductive LampFunction where
  | off | head | marker | tailbrake | indicator | reverse | aux
  deriving DecidableEq, Repr

/-- The built-in patterns (Table 9-3). -/
inductive Pattern where
  | steady | indicate | hazard | failsafe | lowbat | cutoff | conflict | ready
  deriving DecidableEq, Repr

/-- What a channel shows: off, or a pattern with its on-level before dimming (R173). -/
inductive Display where
  | off
  | show (pattern : Pattern) (level : Nat)
  deriving DecidableEq, Repr

/-- The modes of a bridge (Table 7-4; bridge B has no DRAG, R120). -/
inductive BridgeMode where
  | off | brake | drag | fwd | rev
  deriving DecidableEq, Repr

/-- The drive conditions (R135). -/
inductive DriveCondition where
  | held | tripWait | stop | neutral | reversalHold | loop | openLoop
  deriving DecidableEq, Repr

/-- The drum states (Table 8-2). -/
inductive DrumState where
  | braked | engaging | haulIn | payOut | stalled | atLimitIn | atLimitOut | freespool | withdrawn
  deriving DecidableEq, Repr

/-- The direction of a winch operation (R156). -/
inductive WinchDir where
  | haul | payOut
  deriving DecidableEq, Repr

/-- The end reasons of a winch operation (R163). -/
inductive EndReason where
  | lever | stall | limitIn | limitOut | softLimit | failsafe | cutoff | fault
  deriving DecidableEq, Repr

/-- The side of a wheel in a turn (R118). -/
inductive TurnSide where
  | none | inner | outer
  deriving DecidableEq, Repr

/-- The indicator direction (R107), and the node's side (R167). -/
inductive LeftRight where
  | none | left | right
  deriving DecidableEq, Repr

/-- The check results (Table 10-2). -/
inductive CheckResult where
  | ok | opened | shortGnd | shortSupply | lowR | notTested | absent | sweepFail
  deriving DecidableEq, Repr

/-- The steps of the CHECK sequence (Table 10-3); step 8 by channel and part, step 10 by phase. -/
inductive CheckStep where
  | supply
  | pullDownA | pullUpA | loadA
  | pullDownB | pullUpB | loadB
  | lampPresence (lamp : Lamp)
  | lampRating (lamp : Lamp)
  | temperature
  | sweepLeft | sweepRight | sweepReturn
  deriving DecidableEq, Repr

/-- The thermal classes, best to worst (R198). -/
inductive ThermalClass where
  | normal | warn | shutdown
  deriving DecidableEq, Repr

/-- The fault kinds (Table 10-7). -/
inductive FaultKind where
  | conflict | cutoff | checkFail | overcurrent | lampShort | steerStall | steerSensor | encoder
  | thermalSensor | overtemp
  deriving DecidableEq, Repr

/-- The output a fault record names (R200). -/
inductive FaultOutput where
  | none | bridgeA | bridgeB | lamp (l : Lamp) | sensor (t : Sensor)
  deriving DecidableEq, Repr

/-- The receiver states (spec 01, 1.3). -/
inductive RxState where
  | hunt | ready | frame
  deriving DecidableEq, Repr

/-- Where the image in force came from (spec 02). -/
inductive ImageSource where
  | received | default
  deriving DecidableEq, Repr

/-- The result codes of an ANSWER (R55). -/
inductive AnswerResult where
  | ok | refusedState | badIndex | unknown
  deriving DecidableEq, Repr

/-- The freshness classes of a peer entry (Table 3-5). -/
inductive Freshness where
  | fresh | stale | lost
  deriving DecidableEq, Repr

/-- The immediate-report events of R43, in the order of Table 11-15. -/
inductive ReportEvent where
  | levelChange | faultAdded | failsafeEntry | brakingChange | steerLostChange | drumChange
  deriving DecidableEq, Repr

/-! ## Pins -/

/-- The levels last presented at the pins of Table 0-4 (log 5). -/
structure Pins where
  strap : Int
  vpack : Int
  isa : Nat
  isb : Nat
  lampAmps : Quad Nat
  lampPins : Quad Int
  pot : Nat
  sw0 : SwitchLevel
  sw1 : SwitchLevel
  cells : Quad Nat
  ts1 : Int
  die : Int
  outA : Int
  outB : Int
  deriving DecidableEq, Repr

/-! ## Bus port (spec 01) -/

/-- An entry of the receive queue (R10); its length is that of the payload, its owners follow from kind and mark. -/
structure RxFrame where
  kind : FrameKind
  sender : Nat
  payload : List Byte
  own : Bool
  deriving DecidableEq, Repr

/-- A frame placed in a slot; the kind is the slot's. -/
structure TxFrame where
  sender : Nat
  payload : List Byte
  deriving DecidableEq, Repr

/-- The frame a slot works on: committed or not, its attempt number a (R17) and its backoff in bit times. -/
structure Held where
  frame : TxFrame
  committed : Bool
  attempts : Nat
  backoff : Option Nat
  deriving DecidableEq, Repr

/-- One slot of the transmit set (R12, R13); `withdrawDue` is a withdrawal that waits for the attempt's end (R14),
`discardDue` a RESTART that does (R22). -/
structure Slot where
  held : Option Held
  next : Option TxFrame
  withdrawDue : Bool
  discardDue : Bool
  deriving DecidableEq, Repr

/-- The four slots. -/
structure Slots where
  winch : Slot
  report : Slot
  beat : Slot
  answer : Slot
  deriving DecidableEq, Repr

/-- The attempt on the line: its slot and the levels it drives (R2, R3). -/
structure Attempt where
  kind : TxKind
  line : List LineLevel
  deriving DecidableEq, Repr

/-- The receiver (R6 to R9, R20). -/
structure Receiver where
  state : RxState
  recessiveRun : Nat
  dominantRun : Nat
  exempt : Bool
  echo : Bool
  ownBreak : Bool
  deriving DecidableEq, Repr

/-- The transmitter (R15, R19): the attempt, the bit times left of its own break, the ms since its last attempt. -/
structure Transmitter where
  attempt : Option Attempt
  breakLeft : Option Nat
  sinceAttempt : Nat
  deriving DecidableEq, Repr

/-- The nine bus counters (Table 1-9). -/
structure BusCounters where
  crcErrors : Nat
  framingErrors : Nat
  formatErrors : Nat
  overruns : Nat
  collisions : Nat
  lineFaults : Nat
  txDrops : Nat
  answerDrops : Nat
  cfgIgnored : Nat
  deriving DecidableEq, Repr

structure Bus where
  rx : Receiver
  tx : Transmitter
  queue : List RxFrame
  slots : Slots
  counters : BusCounters
  lineFaultRun : Nat
  busFault : Bool
  deriving DecidableEq, Repr

/-! ## Configuration image (Table 2-5, working values) -/

structure ImageVehicle where
  expectedNodes : Nat
  axleCount : Nat
  cellCount : Nat
  winchPosition : Nat
  packMonitorPosition : Nat
  deriving DecidableEq, Repr

structure ImagePower where
  packLimit : Nat
  reserve : Nat
  nodeCap : Nat
  floor : Nat
  rInt : Nat
  derate : Nat
  limp : Nat
  cutoff : Nat
  hardMin : Nat
  hysteresis : Nat
  imbalanceLimit : Nat
  deriving DecidableEq, Repr

structure ImageSteer where
  xFront : Int
  xMid : Int
  xRear : Int
  halfTrack : Nat
  limFront : Nat
  limMid : Nat
  limRear : Nat
  steerSlew : Nat
  steerStop : Nat
  kpS : Nat
  steerDeadband : Nat
  deriving DecidableEq, Repr

structure ImageDrive where
  wheelDiameter : Nat
  countsPerRev : Nat
  vMax : Nat
  kf : Nat
  kp : Nat
  ki : Nat
  throttleRamp : Nat
  throttleDeadband : Nat
  dragBrake : Nat
  deadTime : Nat
  failsafeTimeout : Nat
  deriving DecidableEq, Repr

/-- The lamp map, one function per class and channel (Table 11-14), and marker_level. -/
structure ImageLights where
  front : Quad LampFunction
  middle : Quad LampFunction
  rear : Quad LampFunction
  centre : Quad LampFunction
  markerLevel : Nat
  deriving DecidableEq, Repr

structure ImageWinch where
  maxLine : Nat
  stall : Nat
  speedMax : Nat
  lineMmPer100 : Nat
  assistRatio : Nat
  assistSlack : Nat
  deriving DecidableEq, Repr

/-- The fields of the image. The same record holds stored values before conversion and working values after (R36). -/
structure Image where
  vehicle : ImageVehicle
  power : ImagePower
  steer : ImageSteer
  drive : ImageDrive
  lights : ImageLights
  winch : ImageWinch
  reportMask : Byte
  deriving DecidableEq, Repr

/-- The image in force (R35, R37). -/
structure ImageInForce where
  source : ImageSource
  crc : Byte
  clamped : Nat
  fields : Image
  deriving DecidableEq, Repr

/-! ## Node controller (spec 02, 03) -/

/-- The conflict data (R31, R33). -/
structure ConflictData where
  cause : ConflictCause
  strapCode : Nat
  refused : Bool
  deriving DecidableEq, Repr

/-- The strap reading (R23): failed attempts, the band and length of the present attempt, the last band read. -/
structure StrapReading where
  failed : Nat
  band : Option Position
  count : Nat
  last : Option Position
  deriving DecidableEq, Repr

structure Node where
  state : NodeState
  position : Option Position
  serial : BitVec 24
  image : Option ImageInForce
  staging : List (Nat × List Byte)
  conflict : Option ConflictData
  assignIgnored : Nat
  silenceTimer : Option Nat
  defaultTimer : Option Nat
  defaultConfig : Bool
  armWait : Bool
  uptime : Nat
  uptimeTimer : Nat
  reportTimer : Option Nat
  sinceReport : Option Nat
  heldEvent : Bool
  eventDue : Bool
  sequence : Nat
  noticeTimer : Option Nat
  packMonitor : Bool
  strap : StrapReading
  deriving DecidableEq, Repr

/-! ## Peer monitor (spec 03) -/

/-- An entry of the peer table (3.3); its freshness class follows from its age (R46). -/
structure PeerEntry where
  station : Nat
  state : NodeState
  level : Protection
  current : Nat
  demand : Nat
  speed : Int
  braking : Bool
  steerLost : Bool
  age : Nat
  deriving DecidableEq, Repr

/-- The winch link record (R50). -/
structure WinchLink where
  lineSpeed : Int
  assist : Bool
  age : Nat
  deriving DecidableEq, Repr

structure Peers where
  table : List PeerEntry
  reserve : Nat
  link : Option WinchLink
  deriving DecidableEq, Repr

/-! ## Command intake (spec 04) -/

/-- The command record (Table 4-1). -/
structure CommandRecord where
  throttle : Int
  steer : Int
  steerMode : SteerMode
  lever : Int
  lights : LightsMode
  hazard : Bool
  assist : Bool
  freespool : Bool
  deriving DecidableEq, Repr

structure Intake where
  bound : Option Nat
  record : CommandRecord
  marker : Option (Nat × Nat)
  linkAge : Option Nat
  stage : FailsafeStage
  deriving DecidableEq, Repr

/-! ## Power supervisor (spec 05, Table 5-1) -/

/-- The averaged consumer currents (R78). -/
structure Currents where
  bridgeA : Nat
  bridgeB : Nat
  lamps : Quad Nat
  deriving DecidableEq, Repr

/-- One figure for each of the four consumers of Table 5-6. -/
structure Consumers where
  bridgeB : Nat
  required : Nat
  bridgeA : Nat
  aux : Nat
  deriving DecidableEq, Repr

/-- The dwell counters (R83, R84, R87). -/
structure Dwell where
  derate : Nat
  limp : Nat
  cutoff : Nat
  rise : Nat
  hardMin : Nat
  deriving DecidableEq, Repr

/-- The cell record (R86). -/
structure CellRecord where
  volts : List Nat
  lowest : Nat
  highest : Nat
  spread : Nat
  deriving DecidableEq, Repr

structure Power where
  running : Bool
  timer : Nat
  vNode : Nat
  currents : Currents
  iOwn : Nat
  demands : Consumers
  lampDemands : Quad Nat
  dOwn : Nat
  iTotal : Nat
  drop : Nat
  vRest : Nat
  cellFigure : Nat
  level : Protection
  dwell : Dwell
  tickLevel : Protection
  avail : Nat
  missing : Nat
  absentShare : Nat
  sumDemand : Nat
  allowance : Nat
  overdraw : Bool
  grants : Consumers
  cells : Option CellRecord
  imbalance : Bool
  cause : Option CutoffCause
  deriving DecidableEq, Repr

/-! ## Bridges -/

structure Setting where
  mode : BridgeMode
  duty : Nat
  deriving DecidableEq, Repr

/-- A bridge: the buffered and the applied setting (R141); the setting that the present PWM period's boundary left, and those
left at once within the period, the newest first (R140, R142); `used` is set when the bridge was in a mode other than OFF and
BRAKE since the last budget tick (R97). -/
structure Bridge where
  next : Setting
  active : Setting
  left : Setting
  atOnce : List Setting
  used : Bool
  deriving DecidableEq, Repr

/-! ## Steering unit (spec 06, Table 6-1) -/

/-- The geometry result (R118). -/
structure Geometry where
  mode : SteerMode
  straight : Bool
  target : Int
  side : TurnSide
  q : Nat
  indicator : LeftRight
  deriving DecidableEq, Repr

/-- The stall window of R125: its start time and angle. -/
structure StallWindow where
  start : Nat
  angle : Int
  deriving DecidableEq, Repr

/-- The POT readings at the left and right stops (R119). -/
structure Calibration where
  left : Nat
  right : Nat
  deriving DecidableEq, Repr

structure Steer where
  mode : SteerMode
  pendingMode : Option SteerMode
  geometry : Geometry
  presented : Int
  actuator : Int
  measured : Int
  calibration : Option Calibration
  ceiling : Nat
  limited : Bool
  loop : Bool
  stallWindow : Option StallWindow
  stallLimit : Option Nat
  stallHistory : List Nat
  lossCount : Nat
  steerLost : Bool
  centered : Bool
  timer : Nat
  deriving DecidableEq, Repr

/-! ## Drive unit (spec 07, Table 7-1) -/

/-- The wheel figures of R128. -/
structure WheelFigures where
  circumference : Nat
  vMaxCps : Nat
  deriving DecidableEq, Repr

/-- The last encoder edge: its direction and the ms since it (R132). -/
structure LastEdge where
  dir : Direction
  age : Nat
  deriving DecidableEq, Repr

/-- The drive unit; `tickRamped` is the magnitude of the ramped throttle at the latest tick, which the next tick records as
the previous one (R129). ASSIST is no field: it stands while assist is in force (R131), as `assistInForce` forms it. -/
structure Drive where
  figures : Option WheelFigures
  ramped : Int
  prevRamped : Nat
  tickRamped : Nat
  target : Int
  condition : DriveCondition
  integrator : Int
  latest : Option Nat
  previous : Option Nat
  lastEdge : Option LastEdge
  measured : Int
  speed : Int
  lossWatch : Nat
  recovery : Nat
  ceiling : Nat
  limited : Bool
  tripHistory : List Nat
  tripWait : Option Nat
  braking : Bool
  reversing : Bool
  encoderLost : Bool
  wheelLost : Bool
  timer : Nat
  deriving DecidableEq, Repr

/-! ## Winch unit (spec 08, Table 8-1) -/

/-- The debounce of one limit input (R151). -/
structure LimitFilter where
  accepted : Option SwitchLevel
  candidate : Option SwitchLevel
  count : Nat
  deriving DecidableEq, Repr

/-- The operation in progress (R156): its first edge, and the first edge against its direction, which becomes its own when
the lever swings (R163). -/
structure OperationRecord where
  dir : WinchDir
  start : Nat
  firstEdge : Option Nat
  otherEdge : Option Nat
  peak : Nat
  deriving DecidableEq, Repr

/-- A record of the operation log (R163). -/
structure LogRecord where
  dir : WinchDir
  latency : Option Nat
  duration : Nat
  peak : Nat
  lineOut : Nat
  reason : EndReason
  deriving DecidableEq, Repr

structure Winch where
  drum : DrumState
  speedTarget : Nat
  targetCps : Int
  filter0 : LimitFilter
  filter1 : LimitFilter
  filterTimer : Nat
  lineOut : Nat
  referenced : Bool
  lineSpeed : Int
  motorCurrent : Nat
  engageTimer : Option Nat
  integrator : Int
  drumCeiling : Nat
  solenoidCeiling : Nat
  drumLimited : Bool
  solenoidLimited : Bool
  stallWindow : Option Nat
  op : Option OperationRecord
  log : List LogRecord
  winchTimer : Option Nat
  cap : Option Int
  timer : Nat
  deriving DecidableEq, Repr

/-! ## Light sequencer (spec 09, Table 9-1) -/

/-- A channel record; the peak level is computed from `current` and the brake hold (R173). -/
structure Channel where
  function : Option LampFunction
  current : Display
  pending : Option Display
  staged : Nat
  active : Nat
  deriving DecidableEq, Repr

structure Lights where
  beat : Nat
  beatTimer : Option Nat
  epoch : Nat
  heard : Bool
  brakeHold : Nat
  channels : Quad Channel
  deriving DecidableEq, Repr

/-! ## Output monitor (spec 10, Table 10-1) -/

/-- The check record (R56). -/
structure CheckRecord where
  bridgeA : CheckResult
  bridgeB : CheckResult
  lamps : Quad CheckResult
  inProgress : Bool
  deriving DecidableEq, Repr

/-- The withdrawn flags of the six outputs (R193). -/
structure Withdrawn where
  bridgeA : Bool
  bridgeB : Bool
  lamps : Quad Bool
  deriving DecidableEq, Repr

/-- The steering sweep in progress (R192): ms in the phase, POT readings newest first, the run of out-of-range
samples, the left stop reading found, and the calibration and STEER_LOST from before the sweep, which a failure in the
return phase leaves. -/
structure Sweep where
  elapsed : Nat
  readings : List Nat
  bad : Nat
  left : Option Nat
  priorCalibration : Option Calibration
  priorLost : Bool
  deriving DecidableEq, Repr

/-- One temperature sensor (R198, R199). -/
structure SensorState where
  reading : Int
  thermal : ThermalClass
  fault : Bool
  implausible : Nat
  deriving DecidableEq, Repr

/-- A fault record (R200). -/
structure FaultRecord where
  kind : FaultKind
  output : FaultOutput
  state : NodeState
  uptime : Nat
  detail : Int
  deriving DecidableEq, Repr

structure Monitor where
  record : CheckRecord
  position : Option CheckStep
  waiting : Bool
  stepTimer : Nat
  pulseVpack : Int
  withdrawn : Withdrawn
  holdA : Option BridgeMode
  ratings : Quad (Option Nat)
  newRatings : Quad (Option Nat)
  absent : Quad Bool
  sweep : Sweep
  tripHistory : List Nat
  tripWait : Option Nat
  ts1 : SensorState
  die : SensorState
  tempTimer : Nat
  faults : List FaultRecord
  deriving DecidableEq, Repr

/-! ## The whole state -/

/-- The state of the block. `now` is the model's clock in ms (log 1); `pending` the commands that wait, oldest first. -/
structure State where
  now : Nat
  pins : Pins
  node : Node
  bus : Bus
  peers : Peers
  intake : Intake
  power : Power
  bridgeA : Bridge
  bridgeB : Bridge
  steer : Steer
  drive : Drive
  winch : Winch
  lights : Lights
  monitor : Monitor
  pending : List Instr
  deriving DecidableEq, Repr

/-- The reasons a step could stop with a fault. The manual names no condition in which the LC24 stops, so no meaning
raises one; the constructor stands for a part outside its absolute ratings (Table 0-5), which no command describes.
Safe: nothing raises it. -/
inductive Fault where
  | outsideRatings
  deriving DecidableEq, Repr

/-- The reasons a step could be refused. -/
inductive Refusal where
  /-- Raised by a row that has no meaning yet (none is left). Safe: the step stops. -/
  | notModelled (mnemonic : String)
  deriving DecidableEq, Repr

/-! ## Power-on reset, block by block -/

/-- The same value four times. -/
def Quad.all {α : Type} (a : α) : Quad α := ⟨a, a, a, a⟩

/-- The levels at the pins before anything is presented (log 5). -/
def Pins.reset : Pins :=
  { strap := 0, vpack := 0, isa := 0, isb := 0, lampAmps := Quad.all 0, lampPins := Quad.all 0, pot := 0,
    sw0 := .opened, sw1 := .opened, cells := Quad.all 0, ts1 := 0, die := 0, outA := 0, outB := 0 }

/-- An EMPTY slot. -/
def Slot.empty : Slot := { held := none, next := none, withdrawDue := false, discardDue := false }

/-- All nine counters 0 (R21). -/
def BusCounters.zero : BusCounters :=
  { crcErrors := 0, framingErrors := 0, formatErrors := 0, overruns := 0, collisions := 0, lineFaults := 0,
    txDrops := 0, answerDrops := 0, cfgIgnored := 0 }

/-- The bus port at power-on reset (R22). -/
def Bus.reset : Bus :=
  { rx := { state := .hunt, recessiveRun := 0, dominantRun := 0, exempt := false, echo := false, ownBreak := false }
    tx := { attempt := none, breakLeft := none, sinceAttempt := 100 }
    queue := []
    slots := { winch := Slot.empty, report := Slot.empty, beat := Slot.empty, answer := Slot.empty }
    counters := BusCounters.zero
    lineFaultRun := 0
    busFault := false }

/-- The node controller at power-on reset (R39). -/
def Node.reset : Node :=
  { state := .strap, position := none, serial := Config.dieSerial, image := none, staging := [], conflict := none
    assignIgnored := 0, silenceTimer := none, defaultTimer := none, defaultConfig := false, armWait := false
    uptime := 0, uptimeTimer := 0, reportTimer := none, sinceReport := none, heldEvent := false, eventDue := false
    sequence := 0, noticeTimer := none, packMonitor := false
    strap := { failed := 0, band := none, count := 0, last := none } }

/-- The peer monitor at power-on reset and RESTART (R49). -/
def Peers.reset : Peers := { table := [], reserve := 0, link := none }

/-- The command record at power-on reset (R76). -/
def CommandRecord.reset : CommandRecord :=
  { throttle := 0, steer := 0, steerMode := .front, lever := 0, lights := .off, hazard := false, assist := false
    freespool := false }

/-- The command intake at power-on reset and RESTART (R76). -/
def Intake.reset : Intake :=
  { bound := none, record := CommandRecord.reset, marker := none, linkAge := none, stage := .none }

/-- No current for any consumer. -/
def Consumers.zero : Consumers := { bridgeB := 0, required := 0, bridgeA := 0, aux := 0 }

/-- The power supervisor at power-on reset, and when it stops (R106). -/
def Power.reset : Power :=
  { running := false, timer := 0, vNode := 0, currents := { bridgeA := 0, bridgeB := 0, lamps := Quad.all 0 }
    iOwn := 0, demands := Consumers.zero, lampDemands := Quad.all 0, dOwn := 0, iTotal := 0, drop := 0, vRest := 0
    cellFigure := 0, level := .normal, dwell := { derate := 0, limp := 0, cutoff := 0, rise := 0, hardMin := 0 }
    tickLevel := .normal, avail := 0, missing := 0, absentShare := 0, sumDemand := 0, allowance := 0
    overdraw := false, grants := Consumers.zero, cells := none, imbalance := false, cause := none }

/-- A bridge with both settings OFF (R127, R148). -/
def Bridge.reset : Bridge := { next := ⟨.off, 0⟩, active := ⟨.off, 0⟩, left := ⟨.off, 0⟩, atOnce := [], used := false }

/-- A straight geometry result with no indicator direction, in a given mode (R127). -/
def Geometry.straightIn (mode : SteerMode) : Geometry :=
  { mode, straight := true, target := 0, side := .none, q := 1000, indicator := .none }

/-- The steering unit at power-on reset and RESTART (R127); the tick timer starts afresh at both (logs 5 and 42). -/
def Steer.reset : Steer :=
  { mode := .front, pendingMode := none, geometry := Geometry.straightIn .front, presented := 0, actuator := 0
    measured := 0, calibration := none, ceiling := 1000, limited := false, loop := false, stallWindow := none
    stallLimit := none, stallHistory := [], lossCount := 0, steerLost := false, centered := false, timer := 0 }

/-- The drive unit at power-on reset and RESTART (R148); the tick timer starts afresh at both (logs 5 and 42). -/
def Drive.reset : Drive :=
  { figures := none, ramped := 0, prevRamped := 0, tickRamped := 0, target := 0, condition := .held, integrator := 0, latest := none
    previous := none, lastEdge := none, measured := 0, speed := 0, lossWatch := 0, recovery := 0, ceiling := 1000
    limited := false, tripHistory := [], tripWait := none, braking := false, reversing := false
    encoderLost := false, wheelLost := false, timer := 0 }

/-- A limit input with no accepted level (R166). -/
def LimitFilter.reset : LimitFilter := { accepted := none, candidate := none, count := 0 }

/-- The winch unit at power-on reset (R166). -/
def Winch.reset : Winch :=
  { drum := .braked, speedTarget := 0, targetCps := 0, filter0 := LimitFilter.reset, filter1 := LimitFilter.reset
    filterTimer := 0, lineOut := 0, referenced := false, lineSpeed := 0, motorCurrent := 0, engageTimer := none
    integrator := 0, drumCeiling := 1000, solenoidCeiling := 1000, drumLimited := false, solenoidLimited := false
    stallWindow := none, op := none, log := [], winchTimer := none, cap := none, timer := 0 }

/-- A channel record at power-on reset (R185). -/
def Channel.reset : Channel := { function := none, current := .off, pending := none, staged := 0, active := 0 }

/-- The light sequencer at power-on reset (R185). -/
def Lights.reset : Lights :=
  { beat := 0, beatTimer := none, epoch := 0, heard := false, brakeHold := 0, channels := Quad.all Channel.reset }

/-- A check record at NOT_TESTED for every output. -/
def CheckRecord.untested (inProgress : Bool) : CheckRecord :=
  { bridgeA := .notTested, bridgeB := .notTested, lamps := Quad.all .notTested, inProgress }

/-- No output withdrawn. -/
def Withdrawn.none : Withdrawn := { bridgeA := false, bridgeB := false, lamps := Quad.all false }

/-- A sweep not begun. -/
def Sweep.reset : Sweep := { elapsed := 0, readings := [], bad := 0, left := Option.none, priorCalibration := Option.none, priorLost := false }

/-- A sensor at power-on reset (R201). -/
def SensorState.reset : SensorState := { reading := 0, thermal := .normal, fault := false, implausible := 0 }

/-- The output monitor at power-on reset (R201); the reading timer starts at 0, so the first temperature reading falls 10 ms
later (log 50). -/
def Monitor.reset : Monitor :=
  { record := CheckRecord.untested false, position := none, waiting := false, stepTimer := 0, pulseVpack := 0
    withdrawn := Withdrawn.none, holdA := none, ratings := Quad.all none, newRatings := Quad.all none
    absent := Quad.all false, sweep := Sweep.reset, tripHistory := [], tripWait := none
    ts1 := SensorState.reset, die := SensorState.reset, tempTimer := 0, faults := [] }

/-- The block right after power-on reset, with an empty queue. -/
def State.reset : State :=
  { now := 0, pins := Pins.reset, node := Node.reset, bus := Bus.reset, peers := Peers.reset, intake := Intake.reset
    power := Power.reset, bridgeA := Bridge.reset, bridgeB := Bridge.reset, steer := Steer.reset
    drive := Drive.reset, winch := Winch.reset, lights := Lights.reset, monitor := Monitor.reset, pending := [] }

/-! ## Named updates, one per field of State -/

def State.setNow (s : State) (x : Nat) : State := { s with now := x }
def State.setPins (s : State) (x : Pins) : State := { s with pins := x }
def State.setNode (s : State) (x : Node) : State := { s with node := x }
def State.setBus (s : State) (x : Bus) : State := { s with bus := x }
def State.setPeers (s : State) (x : Peers) : State := { s with peers := x }
def State.setIntake (s : State) (x : Intake) : State := { s with intake := x }
def State.setPower (s : State) (x : Power) : State := { s with power := x }
def State.setBridgeA (s : State) (x : Bridge) : State := { s with bridgeA := x }
def State.setBridgeB (s : State) (x : Bridge) : State := { s with bridgeB := x }
def State.setSteer (s : State) (x : Steer) : State := { s with steer := x }
def State.setDrive (s : State) (x : Drive) : State := { s with drive := x }
def State.setWinch (s : State) (x : Winch) : State := { s with winch := x }
def State.setLights (s : State) (x : Lights) : State := { s with lights := x }
def State.setMonitor (s : State) (x : Monitor) : State := { s with monitor := x }
def State.setPending (s : State) (x : List Instr) : State := { s with pending := x }

end Sys2Proof.Machine
end

