-- ==== Sys2Proof/Machine/Arith.lean ====
section
/-! DEFINITION. The arithmetic conventions of the manual (00 Conventions), and reading and writing one of four. -/

namespace Sys2Proof

/-! ## One of four -/

/-- The value of a lamp channel. -/
def Quad.get {α : Type} (q : Quad α) : Lamp → α
  | .l0 => q.l0
  | .l1 => q.l1
  | .l2 => q.l2
  | .l3 => q.l3

/-- Replace the value of one lamp channel. -/
def Quad.put {α : Type} (q : Quad α) (l : Lamp) (x : α) : Quad α :=
  match l with
  | .l0 => { q with l0 := x }
  | .l1 => { q with l1 := x }
  | .l2 => { q with l2 := x }
  | .l3 => { q with l3 := x }

/-- Apply a function to each of four values. -/
def Quad.map {α β : Type} (f : α → β) (q : Quad α) : Quad β := ⟨f q.l0, f q.l1, f q.l2, f q.l3⟩

/-- Each lamp's own value, from a function of the lamp. -/
def Quad.ofLamp {α : Type} (f : Lamp → α) : Quad α := ⟨f .l0, f .l1, f .l2, f .l3⟩

/-- The sum of four natural numbers. -/
def Quad.sum (q : Quad Nat) : Nat := q.l0 + q.l1 + q.l2 + q.l3

/-- The four values in order. -/
def Quad.toList {α : Type} (q : Quad α) : List α := [q.l0, q.l1, q.l2, q.l3]

end Sys2Proof

namespace Sys2Proof.Machine

/-! ## Integers -/

/-- A division that rounds to the nearest integer, a half away from zero (00 Arithmetic); `b` is above 0. -/
def rdiv (a b : Int) : Int :=
  if a < 0 then -((2 * (-a) + b) / (2 * b)) else (2 * a + b) / (2 * b)

/-- The rounded division of natural numbers (00 Arithmetic). -/
def rdivNat (a b : Nat) : Nat := (2 * a + b) / (2 * b)

/-- A value clamped to a range takes the nearer end when it lies outside (00 Arithmetic). -/
def clampInt (lo hi x : Int) : Int := if x < lo then lo else if hi < x then hi else x

/-- The clamp of natural numbers. -/
def clampNat (lo hi x : Nat) : Nat := if x < lo then lo else if hi < x then hi else x

/-- An integer reading clamped to 0 to `hi`, as a natural number. -/
def clampToNat (hi : Nat) (x : Int) : Nat := (clampInt 0 hi x).toNat

/-- A saturating count: one more, stopping at `top` (R21, R33). -/
def bumpTo (top n : Nat) : Nat := if n < top then n + 1 else top

/-- The sign of an integer: -1, 0 or 1. -/
def signOf (x : Int) : Int := if x < 0 then -1 else if 0 < x then 1 else 0

/-- Integer square root by bits from 2^k down: the greatest r, made of r0 and lower bits, with r^2 ≤ n. -/
def isqrtBits (n : Nat) : Nat → Nat → Nat
  | 0, r => r
  | k + 1, r => isqrtBits n k (if (r + 2 ^ k) * (r + 2 ^ k) ≤ n then r + 2 ^ k else r)

/-- The floor of the square root (00 Arithmetic), for n below 2^64. -/
def isqrt (n : Nat) : Nat := isqrtBits n 32 0

/-- Move `x` toward `goal` by at most `by_` (R121, R129). -/
def approach (x goal : Int) (step : Nat) : Int :=
  if x + step < goal then x + step else if goal + step < x then x - step else goal

/-- A time stamp is still within `window` ms of now (R125, R144, R197: older stamps are dropped). -/
def within (now window stamp : Nat) : Bool := now - stamp ≤ window

/-- The lamp channel tested after another at step 8 (R190). -/
def nextLamp : Lamp → Option Lamp
  | .l0 => some .l1
  | .l1 => some .l2
  | .l2 => some .l3
  | .l3 => none

/-! ## Positions (Table 0-1) -/

/-- The position code, which is the station number (00 Positions). -/
def posCode : Position → Nat
  | .fl => 1
  | .fr => 2
  | .ml => 3
  | .mr => 4
  | .rl => 5
  | .rr => 6
  | .ca => 7
  | .cb => 8

/-- The position of a code; none outside 1 to 8. -/
def posOfCode : Nat → Option Position
  | 1 => some .fl
  | 2 => some .fr
  | 3 => some .ml
  | 4 => some .mr
  | 5 => some .rl
  | 6 => some .rr
  | 7 => some .ca
  | 8 => some .cb
  | _ => none

/-- Positions 1 to 6 are corners (R24). -/
def isCorner : Position → Bool
  | .ca => false
  | .cb => false
  | .fl => true
  | .fr => true
  | .ml => true
  | .mr => true
  | .rl => true
  | .rr => true

/-- The node's side (R109, R167). -/
def sideOf : Position → LeftRight
  | .fl => .left
  | .ml => .left
  | .rl => .left
  | .fr => .right
  | .mr => .right
  | .rr => .right
  | .ca => .none
  | .cb => .none

/-- The axle-mate's station (R53). -/
def axleMate : Position → Option Nat
  | .fl => some 2
  | .fr => some 1
  | .ml => some 4
  | .mr => some 3
  | .rl => some 6
  | .rr => some 5
  | .ca => none
  | .cb => none

/-- The band of a STRAP sample in mV (Table 2-1). -/
def strapBand (mv : Int) : Option Position :=
  if 200 ≤ mv ∧ mv ≤ 500 then some .fl
  else if 600 ≤ mv ∧ mv ≤ 900 then some .fr
  else if 1000 ≤ mv ∧ mv ≤ 1300 then some .ml
  else if 1400 ≤ mv ∧ mv ≤ 1700 then some .mr
  else if 1800 ≤ mv ∧ mv ≤ 2100 then some .rl
  else if 2200 ≤ mv ∧ mv ≤ 2500 then some .rr
  else if 2600 ≤ mv ∧ mv ≤ 2900 then some .ca
  else if 3000 ≤ mv ∧ mv ≤ 3300 then some .cb
  else none

/-! ## Levels -/

/-- The place of a protection level, 0 the best. -/
def levelRank : Protection → Nat
  | .normal => 0
  | .derate => 1
  | .limp => 2
  | .cutoff => 3

/-- The worse of two protection levels (R89). -/
def worse (a b : Protection) : Protection := if levelRank a < levelRank b then b else a

/-- The worse of two thermal classes (R198). -/
def worseThermal : ThermalClass → ThermalClass → ThermalClass
  | .shutdown, _ => .shutdown
  | _, .shutdown => .shutdown
  | .warn, _ => .warn
  | _, .warn => .warn
  | .normal, .normal => .normal

end Sys2Proof.Machine
end

