-- ==== Sys2Proof/Machine/Operands.lean ====
section
/-! DEFINITION. Frames as bytes and as line levels: the CRC (R4), the header (Table 11-1), the codes (Table 11-12) and
the payload layouts of chapter 11, read and written. -/

namespace Sys2Proof.Machine

/-! ## Bytes and fields (R202) -/

/-- One data bit into the CRC register, most significant first (R4). -/
def crcBit (reg : Byte) (bit : Bool) : Byte :=
  if reg.getLsbD 7 != bit then (reg <<< 1) ^^^ 0x1D#8 else reg <<< 1

/-- The data bits of a byte, most significant first (R2). -/
def byteBits (b : Byte) : List Bool :=
  [b.getLsbD 7, b.getLsbD 6, b.getLsbD 5, b.getLsbD 4, b.getLsbD 3, b.getLsbD 2, b.getLsbD 1, b.getLsbD 0]

/-- One byte into the CRC register. -/
def crcByte (reg b : Byte) : Byte := (byteBits b).foldl crcBit reg

/-- CRC-8 of R4: generator 0x1D, register start 0xFF, no final inversion. -/
def crc8 (bytes : List Byte) : Byte := bytes.foldl crcByte 0xFF#8

/-- A byte from a number (its low eight bits). -/
def byteOf (n : Nat) : Byte := BitVec.ofNat 8 n

/-- A number from two bytes, most significant first (R202). -/
def be16 (hi lo : Byte) : Nat := hi.toNat * 256 + lo.toNat

/-- A signed number in two's complement from two bytes (R202). -/
def beS16 (hi lo : Byte) : Int := if be16 hi lo < 32768 then (be16 hi lo : Int) else (be16 hi lo : Int) - 65536

/-- A number from three bytes. -/
def be24 (a b c : Byte) : Nat := a.toNat * 65536 + b.toNat * 256 + c.toNat

/-- Two bytes of a number, most significant first. -/
def put16 (n : Nat) : List Byte := [byteOf (n / 256), byteOf n]

/-- Two bytes of a signed number in two's complement. -/
def putS16 (x : Int) : List Byte := put16 ((x % 65536).toNat)

/-- Three bytes of a number. -/
def put24 (n : Nat) : List Byte := [byteOf (n / 65536), byteOf (n / 256), byteOf n]

/-- The first-named value of a shared byte, bits 7 to 4. -/
def hiNibble (b : Byte) : Nat := b.toNat / 16

/-- The second value of a shared byte, bits 3 to 0. -/
def loNibble (b : Byte) : Nat := b.toNat % 16

/-- A shared byte from its two values. -/
def nibbles (hi lo : Nat) : Byte := byteOf (hi * 16 + lo)

/-- A number from bits, bit 0 first. -/
def bitsToNat : List Bool → Nat
  | [] => 0
  | b :: bs => (if b then 1 else 0) + 2 * bitsToNat bs

/-! ## Codes (Table 11-12) -/

def kindCode : FrameKind → Nat
  | .assign => 0
  | .command => 1
  | .winch => 2
  | .report => 3
  | .beat => 4
  | .config => 5
  | .query => 6
  | .answer => 7

def kindOfCode : Nat → Option FrameKind
  | 0 => some .assign
  | 1 => some .command
  | 2 => some .winch
  | 3 => some .report
  | 4 => some .beat
  | 5 => some .config
  | 6 => some .query
  | 7 => some .answer
  | _ => none

def stateCode : NodeState → Nat
  | .strap => 0
  | .listen => 1
  | .check => 2
  | .safe => 3
  | .run => 4
  | .failsafe => 5
  | .cutoff => 6
  | .conflict => 7

def stateOfCode : Nat → Option NodeState
  | 0 => some .strap
  | 1 => some .listen
  | 2 => some .check
  | 3 => some .safe
  | 4 => some .run
  | 5 => some .failsafe
  | 6 => some .cutoff
  | 7 => some .conflict
  | _ => none

def levelOfCode : Nat → Protection
  | 0 => .normal
  | 1 => .derate
  | 2 => .limp
  | _ => .cutoff

def steerModeOfCode : Nat → Option SteerMode
  | 0 => some .front
  | 1 => some .rear
  | 2 => some .counter
  | 3 => some .crab
  | _ => none

def lightsModeOfCode : Nat → Option LightsMode
  | 0 => some .off
  | 1 => some .marker
  | 2 => some .drive
  | 3 => some .full
  | _ => none

def drumCode : DrumState → Nat
  | .braked => 0
  | .engaging => 1
  | .haulIn => 2
  | .payOut => 3
  | .stalled => 4
  | .atLimitIn => 5
  | .atLimitOut => 6
  | .freespool => 7
  | .withdrawn => 8

def answerCode : AnswerResult → Nat
  | .ok => 0
  | .refusedState => 1
  | .badIndex => 2
  | .unknown => 3

def checkCode : CheckResult → Nat
  | .ok => 0
  | .opened => 1
  | .shortGnd => 2
  | .shortSupply => 3
  | .lowR => 4
  | .notTested => 5
  | .absent => 6
  | .sweepFail => 7

def faultKindCode : FaultKind → Nat
  | .conflict => 1
  | .cutoff => 2
  | .checkFail => 3
  | .overcurrent => 4
  | .lampShort => 5
  | .steerStall => 6
  | .steerSensor => 7
  | .encoder => 8
  | .thermalSensor => 9
  | .overtemp => 10

def lampCode : Lamp → Nat
  | .l0 => 3
  | .l1 => 4
  | .l2 => 5
  | .l3 => 6

def faultOutputCode : FaultOutput → Nat
  | .none => 0
  | .bridgeA => 1
  | .bridgeB => 2
  | .lamp l => lampCode l
  | .sensor .ts1 => 7
  | .sensor .die => 8

def conflictCauseCode : ConflictCause → Nat
  | .strap => 0
  | .duplicate => 1

def cutoffCauseCode : CutoffCause → Nat
  | .ownCell => 0
  | .ownPack => 1
  | .breakHeard => 2
  | .peer => 3

def winchDirCode : WinchDir → Nat
  | .haul => 0
  | .payOut => 1

def endReasonCode : EndReason → Nat
  | .lever => 0
  | .stall => 1
  | .limitIn => 2
  | .limitOut => 3
  | .softLimit => 4
  | .failsafe => 5
  | .cutoff => 6
  | .fault => 7

def sourceCode : ImageSource → Nat
  | .received => 1
  | .default => 2

/-- The lamp function of a code; 7 to 15 become OFF (R36, Table 11-14). -/
def lampFunctionOfCode : Nat → LampFunction
  | 1 => .head
  | 2 => .marker
  | 3 => .tailbrake
  | 4 => .indicator
  | 5 => .reverse
  | 6 => .aux
  | _ => .off

/-- The known query codes. -/
inductive QueryCode where
  | checkRecord | fault | winchLog | counters | image | budget | restart | recheck
  deriving DecidableEq, Repr

def queryOfCode : Nat → Option QueryCode
  | 1 => some .checkRecord
  | 2 => some .fault
  | 3 => some .winchLog
  | 4 => some .counters
  | 5 => some .image
  | 6 => some .budget
  | 7 => some .restart
  | 8 => some .recheck
  | _ => none

def queryCodeNat : QueryCode → Nat
  | .checkRecord => 1
  | .fault => 2
  | .winchLog => 3
  | .counters => 4
  | .image => 5
  | .budget => 6
  | .restart => 7
  | .recheck => 8

/-! ## The frame on the line (R2, R3) -/

/-- The kind of frame a slot sends. -/
def txFrameKind : TxKind → FrameKind
  | .winch => .winch
  | .report => .report
  | .beat => .beat
  | .answer => .answer

/-- The header byte (Table 11-1). -/
def headerByte (kind : FrameKind) (sender : Nat) : Byte := nibbles (kindCode kind) sender

/-- The bytes of a frame in line order: header, length, payload, CRC (R3). -/
def frameBytes (kind : FrameKind) (sender : Nat) (payload : List Byte) : List Byte :=
  let body := headerByte kind sender :: byteOf payload.length :: payload
  body ++ [crc8 body]

/-- The level of a data bit: dominant is 0 (R1). -/
def bitLevel (b : Bool) : LineLevel := if b then .recessive else .dominant

/-- A byte on the line: start bit, eight data bits, stop bit (R2). -/
def byteLine (b : Byte) : List LineLevel := .dominant :: (byteBits b).map bitLevel ++ [.recessive]

/-- A frame on the line, with its two end bit times (R3). -/
def frameLine (bytes : List Byte) : List LineLevel := (bytes.map byteLine).flatten ++ [.recessive, .recessive]

/-- The sender class of a kind (Table 1-2): command stations 12 to 15 or nodes 1 to 8. -/
def senderAllowed (kind : FrameKind) (sender : Nat) : Bool :=
  match kind with
  | .assign => 12 ≤ sender && sender ≤ 15
  | .command => 12 ≤ sender && sender ≤ 15
  | .config => 12 ≤ sender && sender ≤ 15
  | .query => 12 ≤ sender && sender ≤ 15
  | .winch => 1 ≤ sender && sender ≤ 8
  | .report => 1 ≤ sender && sender ≤ 8
  | .beat => 1 ≤ sender && sender ≤ 8
  | .answer => 1 ≤ sender && sender ≤ 8

/-- How a complete frame fares at the checks of Table 1-4 that remain at its first end bit (R8). -/
inductive Verdict where
  | formatError
  | crcError
  | valid (kind : FrameKind) (sender : Nat) (payload : List Byte)
  deriving DecidableEq, Repr

/-- The kind and sender check of R5 and R8. -/
def judgeHeader (header : Byte) (payload : List Byte) : Verdict :=
  match kindOfCode (hiNibble header) with
  | none => .formatError
  | some kind =>
    if senderAllowed kind (loNibble header) then .valid kind (loNibble header) payload else .formatError

/-- The checks of R8 on the bytes of a complete frame, in the order of Table 1-4: length, CRC, kind and sender. -/
def judgeFrame : List Byte → Verdict
  | header :: length :: rest =>
    if 12 < length.toNat ∨ rest.length ≠ length.toNat + 1 then .formatError
    else if crc8 (header :: length :: rest.take length.toNat) ≠ rest.getLastD 0#8 then .crcError
    else judgeHeader header (rest.take length.toNat)
  | _ => .formatError

/-! ## Payloads read (R203: a payload that does not fit its layout is none) -/

/-- ASSIGN (Table 11-3): target serial and position byte. -/
def readAssign : List Byte → Option (BitVec 24 × Nat)
  | [a, b, c, p] => some (BitVec.ofNat 24 (be24 a b c), p.toNat)
  | _ => none

/-- A COMMAND as it stands in its frame (Table 11-4). -/
structure CommandFrame where
  sequence : Nat
  throttle : Int
  steer : Int
  lever : Int
  steerMode : Option SteerMode
  lights : Option LightsMode
  hazard : Bool
  assist : Bool
  freespool : Bool
  deriving DecidableEq, Repr

def readCommand : List Byte → Option CommandFrame
  | [q, t1, t0, s1, s0, w1, w0, m, f] =>
    some { sequence := q.toNat, throttle := beS16 t1 t0, steer := beS16 s1 s0, lever := beS16 w1 w0
           steerMode := steerModeOfCode (hiNibble m), lights := lightsModeOfCode (loNibble m)
           hazard := f.getLsbD 0, assist := f.getLsbD 1, freespool := f.getLsbD 2 }
  | _ => none

/-- What a REPORT holds for the peer monitor: a conflict notice, or the figures an entry keeps (Tables 11-5, 11-7). -/
inductive ReportRead where
  | notice
  | ordinary (entry : PeerEntry)
  deriving DecidableEq, Repr

/-- The ordinary form of a REPORT from a station, for a node state other than CONFLICT. -/
def readOrdinary (station : Nat) (state : NodeState) (i1 i0 d1 d0 s1 s0 f1 f0 : Byte) : ReportRead :=
  .ordinary { station, state, level := levelOfCode (f1.toNat / 64), current := be16 i1 i0, demand := be16 d1 d0
              speed := beS16 s1 s0, braking := f0.getLsbD 0, steerLost := f0.getLsbD 2, age := 0 }

/-- A REPORT payload read under R203. -/
def readReport (station : Nat) (payload : List Byte) : Option ReportRead :=
  match payload with
  | [h, _, _, _, _] => if loNibble h = 7 then some .notice else none
  | [h, i1, i0, d1, d0, _, s1, s0, f1, f0] =>
    match stateOfCode (loNibble h) with
    | none => none
    | some .conflict => none
    | some st => some (readOrdinary station st i1 i0 d1 d0 s1 s0 f1 f0)
  | [h, i1, i0, d1, d0, _, s1, s0, f1, f0, _, _] =>
    match stateOfCode (loNibble h) with
    | none => none
    | some .conflict => none
    | some st => some (readOrdinary station st i1 i0 d1 d0 s1 s0 f1 f0)
  | _ => none

/-- A WINCH payload (Table 11-8): line speed and assist flag; none when the drum state code is above 8 (R203). -/
def readWinch : List Byte → Option (Int × Bool)
  | [d, s1, s0, _, _, f, _, _] => if d.toNat ≤ 8 then some (beS16 s1 s0, f.getLsbD 1) else none
  | _ => none

/-- A BEAT payload (Table 11-9): the epoch. -/
def readBeat : List Byte → Option Nat
  | [e] => some e.toNat
  | _ => none

/-- A QUERY payload (Table 11-9): target station, query code, argument. -/
def readQuery : List Byte → Option (Nat × Nat × Nat)
  | [t, q, a] => some (t.toNat, q.toNat, a.toNat)
  | _ => none

/-! ## Payloads written -/

/-- An ANSWER (Table 11-10); a result other than OK carries no data (R55). -/
def answerPayload (asker code : Nat) (result : AnswerResult) (data : List Byte) : List Byte :=
  [byteOf asker, byteOf code, byteOf (answerCode result)] ++ (if result = .ok then data else [])

/-- A conflict notice (Table 11-7). -/
def noticePayload (serial : BitVec 24) (refused : Bool) (strapCode : Nat) : List Byte :=
  [nibbles 0 7] ++ put24 serial.toNat ++ [byteOf ((if refused then 128 else 0) + strapCode)]

/-- The FAULT data (Table 11-11). -/
def faultData (r : FaultRecord) : List Byte :=
  [byteOf (faultKindCode r.kind), byteOf (faultOutputCode r.output), byteOf (stateCode r.state)]
    ++ put24 r.uptime ++ putS16 r.detail

/-- The WINCH_LOG data (Table 11-11): an absent latency is 65535, one of 65535 or more is 65534. -/
def logData (r : LogRecord) : List Byte :=
  [nibbles (winchDirCode r.dir) (endReasonCode r.reason)]
    ++ put16 (match r.latency with | none => 65535 | some t => if 65535 ≤ t then 65534 else t)
    ++ put16 r.duration ++ put16 (min 65535 r.peak) ++ put16 (min 65535 r.lineOut)

/-- The COUNTERS data, in the order of Table 1-9. -/
def countersData (c : BusCounters) : List Byte :=
  [c.crcErrors, c.framingErrors, c.formatErrors, c.overruns, c.collisions, c.lineFaults, c.txDrops, c.answerDrops,
    c.cfgIgnored].map byteOf

/-- The CHECK_RECORD data (Table 11-11). -/
def checkRecordData (r : CheckRecord) : List Byte :=
  ([r.bridgeA, r.bridgeB, r.lamps.l0, r.lamps.l1, r.lamps.l2, r.lamps.l3].map fun c => byteOf (checkCode c))
    ++ [if r.inProgress then 1#8 else 0#8]

end Sys2Proof.Machine
end

