-- ==== Sys2Proof/Machine/ImageForm.lean ====
section
/-! DEFINITION. The configuration image: its bytes (Table 11-13), its ranges and relations (R36), the conversion to
working values, and the default image (Tables 2-5 and 2-6, R37). -/

namespace Sys2Proof.Machine

/-- Image byte n, numbered from 1 (spec 11). -/
def imageByte (bytes : List Byte) (n : Nat) : Byte := bytes.getD (n - 1) 0#8

/-- A two-byte image field. -/
def imageWord (bytes : List Byte) (n : Nat) : Nat := be16 (imageByte bytes n) (imageByte bytes (n + 1))

/-- A signed two-byte image field. -/
def imageSigned (bytes : List Byte) (n : Nat) : Int := beS16 (imageByte bytes n) (imageByte bytes (n + 1))

/-- A one-byte image field. -/
def imageNat (bytes : List Byte) (n : Nat) : Nat := (imageByte bytes n).toNat

/-- The version field. -/
def imageVersion (bytes : List Byte) : Nat := hiNibble (imageByte bytes 1)

/-- The functions of one class, from its two lamp map bytes (Table 11-14). -/
def imageLamps (bytes : List Byte) (n : Nat) : Quad LampFunction :=
  { l0 := lampFunctionOfCode (hiNibble (imageByte bytes n))
    l1 := lampFunctionOfCode (loNibble (imageByte bytes n))
    l2 := lampFunctionOfCode (hiNibble (imageByte bytes (n + 1)))
    l3 := lampFunctionOfCode (loNibble (imageByte bytes (n + 1))) }

/-- The image as stored, in the units of Table 11-13. -/
def storedImage (bytes : List Byte) : Image :=
  { vehicle :=
      { expectedNodes := loNibble (imageByte bytes 1), axleCount := hiNibble (imageByte bytes 2)
        cellCount := loNibble (imageByte bytes 2), winchPosition := hiNibble (imageByte bytes 3)
        packMonitorPosition := loNibble (imageByte bytes 3) }
    power :=
      { packLimit := imageWord bytes 4, reserve := imageNat bytes 6, nodeCap := imageWord bytes 7
        floor := imageNat bytes 9, rInt := imageNat bytes 10, derate := imageNat bytes 11
        limp := imageNat bytes 12, cutoff := imageNat bytes 13, hardMin := imageNat bytes 14
        hysteresis := imageNat bytes 15, imbalanceLimit := imageNat bytes 16 }
    steer :=
      { xFront := imageSigned bytes 17, xMid := imageSigned bytes 19, xRear := imageSigned bytes 21
        halfTrack := imageWord bytes 23, limFront := imageNat bytes 25, limMid := imageNat bytes 26
        limRear := imageNat bytes 27, steerSlew := imageNat bytes 28, steerStop := imageNat bytes 29
        kpS := imageNat bytes 30, steerDeadband := imageNat bytes 31 }
    drive :=
      { wheelDiameter := imageNat bytes 32, countsPerRev := imageWord bytes 33, vMax := imageWord bytes 35
        kf := imageNat bytes 37, kp := imageNat bytes 38, ki := imageNat bytes 39
        throttleRamp := imageNat bytes 40, throttleDeadband := imageNat bytes 41
        dragBrake := imageNat bytes 42, deadTime := imageNat bytes 43, failsafeTimeout := imageNat bytes 44 }
    lights :=
      { front := imageLamps bytes 45, middle := imageLamps bytes 47, rear := imageLamps bytes 49
        centre := imageLamps bytes 51, markerLevel := imageNat bytes 53 }
    winch :=
      { maxLine := imageWord bytes 54, stall := imageNat bytes 56, speedMax := imageWord bytes 57
        lineMmPer100 := imageNat bytes 59, assistRatio := imageNat bytes 60, assistSlack := imageNat bytes 61 }
    reportMask := imageByte bytes 62 }

/-- Each field clamped to its range; winch_position outside its set takes its default 7 (R36, Table 2-5). -/
def clampFields (i : Image) : Image :=
  { vehicle :=
      { expectedNodes := clampNat 1 8 i.vehicle.expectedNodes, axleCount := clampNat 2 3 i.vehicle.axleCount
        cellCount := clampNat 2 4 i.vehicle.cellCount
        winchPosition :=
          if i.vehicle.winchPosition = 0 ∨ i.vehicle.winchPosition = 7 ∨ i.vehicle.winchPosition = 8 then
            i.vehicle.winchPosition
          else 7
        packMonitorPosition := clampNat 0 8 i.vehicle.packMonitorPosition }
    power :=
      { packLimit := clampNat 50 1000 i.power.packLimit, reserve := clampNat 0 100 i.power.reserve
        nodeCap := clampNat 20 500 i.power.nodeCap, floor := clampNat 0 50 i.power.floor
        rInt := clampNat 1 200 i.power.rInt, derate := clampNat 0 200 i.power.derate
        limp := clampNat 0 200 i.power.limp, cutoff := clampNat 0 200 i.power.cutoff
        hardMin := clampNat 0 200 i.power.hardMin, hysteresis := clampNat 1 30 i.power.hysteresis
        imbalanceLimit := clampNat 5 50 i.power.imbalanceLimit }
    steer :=
      { xFront := clampInt (-600) 600 i.steer.xFront, xMid := clampInt (-600) 600 i.steer.xMid
        xRear := clampInt (-600) 600 i.steer.xRear, halfTrack := clampNat 40 400 i.steer.halfTrack
        limFront := clampNat 0 90 i.steer.limFront, limMid := clampNat 0 90 i.steer.limMid
        limRear := clampNat 0 90 i.steer.limRear, steerSlew := clampNat 1 50 i.steer.steerSlew
        steerStop := clampNat 20 100 i.steer.steerStop, kpS := clampNat 1 255 i.steer.kpS
        steerDeadband := clampNat 1 30 i.steer.steerDeadband }
    drive :=
      { wheelDiameter := clampNat 40 250 i.drive.wheelDiameter
        countsPerRev := clampNat 12 4096 i.drive.countsPerRev, vMax := clampNat 100 5000 i.drive.vMax
        kf := clampNat 0 255 i.drive.kf, kp := clampNat 0 255 i.drive.kp, ki := clampNat 0 255 i.drive.ki
        throttleRamp := clampNat 1 200 i.drive.throttleRamp
        throttleDeadband := clampNat 10 200 i.drive.throttleDeadband
        dragBrake := clampNat 0 100 i.drive.dragBrake, deadTime := clampNat 2 16 i.drive.deadTime
        failsafeTimeout := clampNat 10 100 i.drive.failsafeTimeout }
    lights := { i.lights with markerLevel := clampNat 0 255 i.lights.markerLevel }
    winch :=
      { maxLine := clampNat 100 3000 i.winch.maxLine, stall := clampNat 10 255 i.winch.stall
        speedMax := clampNat 50 1000 i.winch.speedMax, lineMmPer100 := clampNat 1 255 i.winch.lineMmPer100
        assistRatio := clampNat 50 150 i.winch.assistRatio, assistSlack := clampNat 0 255 i.winch.assistSlack }
    reportMask := i.reportMask }

/-- The four relations of R36, in its order. -/
def enforceRelations (i : Image) : Image :=
  let limp := min i.power.limp i.power.derate
  let cutoff := min i.power.cutoff limp
  let hardMin := min i.power.hardMin cutoff
  let floor := min i.power.floor (i.power.nodeCap * 60 / 100)
  { i with power := { i.power with limp, cutoff, hardMin, floor } }

/-- Clamp and relations: the stored image as it is taken into force (R36). -/
def settleFields (i : Image) : Image := enforceRelations (clampFields i)

/-- Whether a lamp map entry of the bytes is not one of the seven function codes. -/
def lampMapChanged (bytes : List Byte) : Bool :=
  [45, 46, 47, 48, 49, 50, 51, 52].any fun n =>
    6 < hiNibble (imageByte bytes n) || 6 < loNibble (imageByte bytes n)

/-- Which fields of two stored images differ, the lamp map apart. -/
def fieldChanges (a b : Image) : List Bool :=
  [ a.vehicle.expectedNodes != b.vehicle.expectedNodes, a.vehicle.axleCount != b.vehicle.axleCount,
    a.vehicle.cellCount != b.vehicle.cellCount, a.vehicle.winchPosition != b.vehicle.winchPosition,
    a.vehicle.packMonitorPosition != b.vehicle.packMonitorPosition ] ++
  [ a.power.packLimit != b.power.packLimit, a.power.reserve != b.power.reserve, a.power.nodeCap != b.power.nodeCap,
    a.power.floor != b.power.floor, a.power.rInt != b.power.rInt, a.power.derate != b.power.derate,
    a.power.limp != b.power.limp, a.power.cutoff != b.power.cutoff, a.power.hardMin != b.power.hardMin,
    a.power.hysteresis != b.power.hysteresis, a.power.imbalanceLimit != b.power.imbalanceLimit ] ++
  [ a.steer.xFront != b.steer.xFront, a.steer.xMid != b.steer.xMid, a.steer.xRear != b.steer.xRear,
    a.steer.halfTrack != b.steer.halfTrack, a.steer.limFront != b.steer.limFront, a.steer.limMid != b.steer.limMid,
    a.steer.limRear != b.steer.limRear, a.steer.steerSlew != b.steer.steerSlew,
    a.steer.steerStop != b.steer.steerStop, a.steer.kpS != b.steer.kpS,
    a.steer.steerDeadband != b.steer.steerDeadband ] ++
  [ a.drive.wheelDiameter != b.drive.wheelDiameter, a.drive.countsPerRev != b.drive.countsPerRev,
    a.drive.vMax != b.drive.vMax, a.drive.kf != b.drive.kf, a.drive.kp != b.drive.kp, a.drive.ki != b.drive.ki,
    a.drive.throttleRamp != b.drive.throttleRamp, a.drive.throttleDeadband != b.drive.throttleDeadband,
    a.drive.dragBrake != b.drive.dragBrake, a.drive.deadTime != b.drive.deadTime,
    a.drive.failsafeTimeout != b.drive.failsafeTimeout ] ++
  [ a.lights.markerLevel != b.lights.markerLevel ] ++
  [ a.winch.maxLine != b.winch.maxLine, a.winch.stall != b.winch.stall, a.winch.speedMax != b.winch.speedMax,
    a.winch.lineMmPer100 != b.winch.lineMmPer100, a.winch.assistRatio != b.winch.assistRatio,
    a.winch.assistSlack != b.winch.assistSlack ]

/-- The clamped-field count: each field changed counts one, the lamp map as one field (R36). -/
def clampedCount (bytes : List Byte) : Nat :=
  (lampMapChanged bytes :: fieldChanges (storedImage bytes) (settleFields (storedImage bytes))).count true

/-- The threshold of a code, mV (Table 2-5). -/
def thresholdMv (code : Nat) : Nat := 2500 + 10 * code

/-- Stored values converted to the working units of Table 2-5. -/
def workingImage (i : Image) : Image :=
  { i with
    power :=
      { i.power with
        derate := thresholdMv i.power.derate, limp := thresholdMv i.power.limp
        cutoff := thresholdMv i.power.cutoff, hardMin := thresholdMv i.power.hardMin
        hysteresis := 10 * i.power.hysteresis, imbalanceLimit := 10 * i.power.imbalanceLimit }
    steer :=
      { i.steer with
        limFront := 5 * i.steer.limFront, limMid := 5 * i.steer.limMid, limRear := 5 * i.steer.limRear
        steerStop := 5 * i.steer.steerStop }
    drive :=
      { i.drive with deadTime := 100 * i.drive.deadTime, failsafeTimeout := 10 * i.drive.failsafeTimeout }
    winch := { i.winch with maxLine := 10 * i.winch.maxLine } }

/-- The fields taken into force from 63 image bytes (R36). -/
def imageFields (bytes : List Byte) : Image := workingImage (settleFields (storedImage bytes))

/-- The first 62 bytes of the default image (Table 11-13). -/
def defaultBytes : List Byte :=
  [0x15#8, 0x23#8, 0x77#8, 0x01#8, 0x90#8, 20#8, 0x00#8, 200#8, 10#8, 30#8, 105#8, 95#8, 85#8, 50#8, 6#8, 20#8]
    ++ [0x00#8, 0x98#8, 0x00#8, 0x00#8, 0xFF#8, 0x68#8, 0x00#8, 120#8, 70#8, 0#8, 70#8, 10#8, 80#8, 40#8, 5#8, 110#8]
    ++ [0x01#8, 0x68#8, 0x05#8, 0xDC#8, 100#8, 48#8, 4#8, 20#8, 30#8, 60#8, 5#8, 25#8, 0x14#8, 0x26#8, 0x24#8, 0x60#8]
    ++ [0x34#8, 0x56#8, 0x66#8, 0x20#8, 96#8, 0x03#8, 0x84#8, 150#8, 0x01#8, 0x2C#8, 40#8, 100#8, 50#8, 0x3F#8]

/-- The default lamp map (Table 2-6). -/
def defaultFront : Quad LampFunction := ⟨.head, .indicator, .marker, .aux⟩
def defaultMiddle : Quad LampFunction := ⟨.marker, .indicator, .aux, .off⟩
def defaultRear : Quad LampFunction := ⟨.tailbrake, .indicator, .reverse, .aux⟩
def defaultCentre : Quad LampFunction := ⟨.aux, .aux, .marker, .off⟩

/-- The default image in working values (Tables 2-5 and 2-6). -/
def defaultFields : Image :=
  { vehicle := { expectedNodes := 5, axleCount := 2, cellCount := 3, winchPosition := 7, packMonitorPosition := 7 }
    power :=
      { packLimit := 400, reserve := 20, nodeCap := 200, floor := 10, rInt := 30, derate := 3550, limp := 3450
        cutoff := 3350, hardMin := 3000, hysteresis := 60, imbalanceLimit := 200 }
    steer :=
      { xFront := 152, xMid := 0, xRear := -152, halfTrack := 120, limFront := 350, limMid := 0, limRear := 350
        steerSlew := 10, steerStop := 400, kpS := 40, steerDeadband := 5 }
    drive :=
      { wheelDiameter := 110, countsPerRev := 360, vMax := 1500, kf := 100, kp := 48, ki := 4, throttleRamp := 20
        throttleDeadband := 30, dragBrake := 60, deadTime := 500, failsafeTimeout := 250 }
    lights :=
      { front := defaultFront, middle := defaultMiddle, rear := defaultRear, centre := defaultCentre
        markerLevel := 96 }
    winch :=
      { maxLine := 9000, stall := 150, speedMax := 300, lineMmPer100 := 40, assistRatio := 100, assistSlack := 50 }
    reportMask := 0x3F#8 }

/-- The built-in default image as it comes into force (R37). -/
def defaultImage : ImageInForce :=
  { source := .default, crc := crc8 defaultBytes, clamped := 0, fields := defaultFields }

/-- The functions of the four channels at a position, by its class (R167). -/
def lampsOfClass (l : ImageLights) : Position → Quad LampFunction
  | .fl => l.front
  | .fr => l.front
  | .ml => l.middle
  | .mr => l.middle
  | .rl => l.rear
  | .rr => l.rear
  | .ca => l.centre
  | .cb => l.centre

/-! ## The staging image (R34) -/

/-- Hold a segment under its index, in rising order of index; a held one is overwritten. -/
def stagePut (index : Nat) (bytes : List Byte) : List (Nat × List Byte) → List (Nat × List Byte)
  | [] => [(index, bytes)]
  | (k, b) :: rest =>
    if index < k then (index, bytes) :: (k, b) :: rest
    else if index = k then (index, bytes) :: rest
    else (k, b) :: stagePut index bytes rest

/-- The staging image holds all eight indices (R35). -/
def stagingComplete (st : List (Nat × List Byte)) : Bool := st.map Prod.fst = [0, 1, 2, 3, 4, 5, 6, 7]

/-- The 63 bytes in index order. -/
def stagedBytes (st : List (Nat × List Byte)) : List Byte := (st.map Prod.snd).flatten

/-- The segment length an index asks for (R34). -/
def segmentLength (index : Nat) : Nat := if index = 7 then 7 else 8

/-- The two checks of R35: CRC over bytes 1 to 62 against byte 63, and version 1. -/
def imageAccepted (bytes : List Byte) : Bool :=
  crc8 (bytes.take 62) = imageByte bytes 63 && imageVersion bytes = 1

/-- The received image as it comes into force (R35). -/
def receivedImage (bytes : List Byte) : ImageInForce :=
  { source := .received, crc := imageByte bytes 63, clamped := clampedCount bytes, fields := imageFields bytes }

end Sys2Proof.Machine
end

