-- ==== Sys2Proof/Machine/Flags.lean ====
section
/-! DEFINITION. Figures formed from the state whenever a reader asks: roles (R24), the presented record (R71), the peer
figures (R51 to R54), the levels, the lamp figures and the flags of a REPORT (Table 3-2). -/

namespace Sys2Proof.Machine

/-! ## Roles and the image -/

/-- The role that decides the bridges (Table 0-2, R24). -/
inductive Role where
  | corner | winch | plain | unplaced
  deriving DecidableEq, Repr

/-- The role of the node, from its position and the image in force (R24). -/
def roleOf (s : State) : Role :=
  match s.node.position with
  | none => .unplaced
  | some p =>
    if isCorner p then .corner
    else match s.node.image with
      | none => .plain
      | some i => if posCode p = i.fields.vehicle.winchPosition then .winch else .plain

/-- The fields the blocks read; the defaults where a rule asks for a figure with no image in force (R144, R189). -/
def fieldsOf (s : State) : Image :=
  match s.node.image with
  | none => defaultFields
  | some i => i.fields

/-- The station number, equal to the position code. -/
def stationOf (s : State) : Option Nat := s.node.position.map posCode

/-- SAFE, RUN or FAILSAFE. -/
def isServing : NodeState → Bool
  | .safe => true
  | .run => true
  | .failsafe => true
  | .strap => false
  | .listen => false
  | .check => false
  | .cutoff => false
  | .conflict => false

/-- The states that place ordinary REPORTs (Table 3-3); LISTEN does once its silence timer has ended. -/
def reportsNow (s : State) : Bool :=
  s.node.position.isSome &&
    match s.node.state with
    | .strap => false
    | .conflict => false
    | .listen => s.node.silenceTimer.isNone
    | .check => true
    | .safe => true
    | .run => true
    | .failsafe => true
    | .cutoff => true

/-- The report interval in ms (Table 3-3). -/
def reportInterval (s : State) : Nat := if s.node.state = .cutoff then 200 else 20

/-- The presented record: the neutral record in FAILSAFE, else the command record (R71). -/
def presented (s : State) : CommandRecord :=
  if s.node.state = .failsafe then
    { s.intake.record with throttle := 0, steer := 0, lever := 0, hazard := true, assist := false, freespool := false }
  else s.intake.record

/-- The neutral test of a command's clamped throttle and lever (R66). -/
def isNeutral (deadband : Nat) (r : CommandRecord) : Bool := r.throttle.natAbs < deadband && r.lever.natAbs < 100

/-! ## Peer figures -/

/-- The freshness class of an age (Table 3-5). -/
def freshnessOf (age : Nat) : Freshness := if age ≤ 60 then .fresh else if age ≤ 200 then .stale else .lost

/-- The FRESH entries. -/
def freshPeers (p : Peers) : List PeerEntry := p.table.filter fun e => freshnessOf e.age = .fresh

/-- The entries of the sums and the count (R51): those that the table holds. Reaching LOST takes an entry out of them by its
removal (R47), so one past 200 ms whose removal waits behind a budget tick is in the sums as STALE (R48, R79). -/
def countedPeers (p : Peers) : List PeerEntry := p.table

/-- ΣI (R51). -/
def peerCurrent (p : Peers) : Nat := ((countedPeers p).map PeerEntry.current).sum

/-- ΣD_p (R51). -/
def peerDemand (p : Peers) : Nat := ((countedPeers p).map PeerEntry.demand).sum

/-- The count (R51). -/
def peerCount (p : Peers) : Nat := (countedPeers p).length

/-- The worst computed level among FRESH entries (R52). -/
def worstPeerLevel (p : Peers) : Protection := (freshPeers p).foldl (fun l e => worse l e.level) .normal

/-- Peer braking (R52). -/
def peerBraking (p : Peers) : Bool := (freshPeers p).any PeerEntry.braking

/-- A FRESH entry in CUTOFF by level or by state (R90). -/
def peerInCutoff (p : Peers) : Bool := (freshPeers p).any fun e => e.level = .cutoff || e.state = .cutoff

/-- Axle-mate steering lost (R53). -/
def mateSteerLost (s : State) : Bool :=
  match s.node.position.bind axleMate with
  | none => false
  | some m => (freshPeers s.peers).any fun e => e.station = m && e.steerLost

/-- Insert a speed into an ascending list. -/
def insertSpeed (x : Int) : List Int → List Int
  | [] => [x]
  | y :: ys => if x ≤ y then x :: y :: ys else y :: insertSpeed x ys

/-- The corner ground-speed median: place floor((n - 1) / 2) of the sorted speeds (R54). -/
def speedMedian (p : Peers) : Option Int :=
  let speeds := ((freshPeers p).filter fun e => e.station ≤ 6).map PeerEntry.speed
  let sorted := speeds.foldr insertSpeed []
  sorted[(sorted.length - 1) / 2]?

/-! ## Levels and classes -/

/-- The effective level as a reader finds it (R89). -/
def effectiveLevel (s : State) : Protection :=
  if s.node.state = .cutoff then .cutoff else worse s.power.level (worstPeerLevel s.peers)

/-- The node's thermal class (R198). -/
def thermalClass (s : State) : ThermalClass := worseThermal s.monitor.ts1.thermal s.monitor.die.thermal

/-- THERMAL_WARN: class WARN or SHUTDOWN. -/
def thermalWarn (s : State) : Bool := thermalClass s ≠ .normal

/-- The allowance cap C (R95). -/
def allowanceCap (s : State) : Nat :=
  let cap := (fieldsOf s).power.nodeCap
  if thermalWarn s then cap * 60 / 100 else cap

/-- The trip level of bridge A in dA (R144). -/
def tripLevelA (s : State) : Nat := 2 * (fieldsOf s).power.nodeCap

/-- The trip level of bridge B in dA (R197). -/
def tripLevelB : Nat := 40

/-! ## Bridges -/

/-- The safe hold of bridge A (Table 2-3); a withdrawn bridge stays as its hold was fixed (R193). -/
def safeModeA (s : State) : BridgeMode :=
  if s.monitor.withdrawn.bridgeA then s.monitor.holdA.getD .off
  else if s.node.state = .strap then .off
  else match roleOf s with
    | .corner => .brake
    | .winch => .brake
    | .plain => .off
    | .unplaced => .off

/-- A mode other than OFF and BRAKE, in which a bridge counts as used (R97; DRAG is neither, log 13). -/
def drivesMode : BridgeMode → Bool
  | .off => false
  | .brake => false
  | .drag => true
  | .fwd => true
  | .rev => true

/-- The steering limit of the node's axle, in tenths; none on a node without an axle (R109). -/
def axleOf (s : State) : Option (Int × Nat) :=
  let f := (fieldsOf s).steer
  match s.node.position with
  | some .fl => some (f.xFront, f.limFront)
  | some .fr => some (f.xFront, f.limFront)
  | some .ml => if (fieldsOf s).vehicle.axleCount = 3 then some (f.xMid, f.limMid) else none
  | some .mr => if (fieldsOf s).vehicle.axleCount = 3 then some (f.xMid, f.limMid) else none
  | some .rl => some (f.xRear, f.limRear)
  | some .rr => some (f.xRear, f.limRear)
  | some .ca => none
  | some .cb => none
  | none => none

/-- Assist is in force at a corner (R131). -/
def assistInForce (s : State) : Bool := s.node.state = .run && (presented s).assist

/-- The winch unit's assist flag (R164). -/
def winchAssist (s : State) : Bool := s.winch.drum = .haulIn && (presented s).assist

/-! ## Lamps -/

/-- The function a channel is treated as having: OFF when withdrawn or absent, in every state; else none with no position
(R167, R183, R184). -/
def functionOf (s : State) (l : Lamp) : Option LampFunction :=
  if s.monitor.withdrawn.lamps.get l || s.monitor.absent.get l then some .off
  else if s.node.position.isNone then none
  else (s.lights.channels.get l).function

/-- The on-level of a display before dimming. -/
def onLevel : Display → Nat
  | .off => 0
  | .show _ level => level

/-- The peak level a channel offers (R173). -/
def peakLevel (s : State) (l : Lamp) : Nat :=
  match functionOf s l with
  | none => 0
  | some .off => 0
  | some .tailbrake => if 0 < s.lights.brakeHold then 255 else onLevel (s.lights.channels.get l).current
  | some .head => onLevel (s.lights.channels.get l).current
  | some .marker => onLevel (s.lights.channels.get l).current
  | some .indicator => onLevel (s.lights.channels.get l).current
  | some .reverse => onLevel (s.lights.channels.get l).current
  | some .aux => onLevel (s.lights.channels.get l).current

/-- The functions of the required class (Table 5-6, R182). -/
def isRequired : Option LampFunction → Bool
  | some .head => true
  | some .marker => true
  | some .tailbrake => true
  | some .indicator => true
  | some .reverse => true
  | some .aux => false
  | some .off => false
  | none => false

/-- The beats at which a pattern is on (Table 9-3). -/
def patternOn (p : Pattern) (beat epoch : Nat) : Bool :=
  match p with
  | .steady => true
  | .indicate => beat ≤ 15
  | .hazard => beat ≤ 15
  | .failsafe => beat % 8 ≤ 3
  | .lowbat => epoch % 2 = 1 && (beat ≤ 1 || (4 ≤ beat && beat ≤ 5))
  | .cutoff => epoch % 2 = 0 && beat ≤ 1
  | .conflict => beat % 2 = 0
  | .ready => beat ≤ 1

/-- The step a display gives at a beat (R173). -/
def stepOf (d : Display) (beat epoch : Nat) : Nat :=
  match d with
  | .off => 0
  | .show p level => if patternOn p beat epoch then level else 0

/-- Blinking patterns wait for a super-cycle start (Table 9-3, R175). -/
def isBlinking : Display → Bool
  | .off => false
  | .show .steady _ => false
  | .show _ _ => true

/-- The steps of a pattern; INDICATE and HAZARD share theirs (R173). -/
def stepsKey : Display → Option Pattern
  | .off => none
  | .show .hazard _ => some .indicate
  | .show p _ => some p

/-! ## The REPORT -/

/-- The fourteen flags of Table 3-2, bit 0 first (Table 11-6). The drive and steering flags are clear on a plain centre
node (R41). -/
def reportFlags (s : State) : List Bool :=
  let unitFlags := roleOf s = .corner || roleOf s = .winch
  let assist := if roleOf s = .winch then winchAssist s else assistInForce s
  [ unitFlags && s.drive.braking, unitFlags && s.drive.reversing, unitFlags && s.steer.steerLost,
    unitFlags && s.steer.centered, unitFlags && s.drive.wheelLost, s.node.state = .failsafe, s.node.defaultConfig,
    unitFlags && assist, thermalWarn s, unitFlags && s.drive.encoderLost, s.power.overdraw, s.node.armWait,
    s.bus.busFault, s.power.imbalance ]

/-- Bytes 9 and 10 of an ordinary REPORT: the computed level code above the flags (Table 11-5). -/
def reportFlagWord (s : State) : Nat := levelRank s.power.level * 16384 + bitsToNat (reportFlags s)

/-- V_node: of the latest budget tick, or VPACK as it stands while the supervisor is stopped (R40). -/
def reportVoltage (s : State) : Nat := if s.power.running then s.power.vNode else clampToNat 25500 s.pins.vpack

/-- The wheel speed field: 0 on centre positions (Table 3-1). -/
def reportSpeed (s : State) : Int := if roleOf s = .corner then clampInt (-3000) 3000 s.drive.speed else 0

/-- The min-cell bytes: the lowest reading of the latest tick, on the pack monitor (R40, R86). -/
def reportMinCell (s : State) : List Byte :=
  match s.power.cells with
  | none => []
  | some c => if s.node.packMonitor then put16 (min 25500 c.lowest) else []

/-- An ordinary REPORT as it stands now (R40, Table 11-5). -/
def reportPayload (s : State) : List Byte :=
  [nibbles s.node.sequence (stateCode s.node.state)] ++ put16 (min 1000 s.power.iOwn) ++ put16 (min 1000 s.power.dOwn)
    ++ [byteOf (min 255 (rdivNat (reportVoltage s) 100))] ++ putS16 (reportSpeed s) ++ put16 (reportFlagWord s)
    ++ reportMinCell s

/-- A WINCH frame as it stands now (R164, Table 11-8); a motor current above its field is clamped (log 28). -/
def winchPayload (s : State) : List Byte :=
  [byteOf (drumCode s.winch.drum)] ++ putS16 s.winch.lineSpeed ++ put16 (s.winch.lineOut / 100)
    ++ [byteOf (bitsToNat [s.winch.referenced, winchAssist s])] ++ put16 (min 65535 s.winch.motorCurrent)

/-- The bit of the report mask for an event (Table 11-15). -/
def eventBit : ReportEvent → Nat
  | .levelChange => 0
  | .faultAdded => 1
  | .failsafeEntry => 2
  | .brakingChange => 3
  | .steerLostChange => 4
  | .drumChange => 5

/-- Whether an event is selected; all are with no image in force (R43). -/
def eventSelected (s : State) (e : ReportEvent) : Bool :=
  match s.node.image with
  | none => true
  | some i => i.fields.reportMask.getLsbD (eventBit e)

/-! ## Answers -/

/-- The BUDGET data (R59): with the supervisor stopped its figures are those of R106, all zero and NORMAL; in CUTOFF the
effective level reads CUTOFF. An I_total above its field is clamped (log 28). An allowance that THERMAL_WARN has lowered since
the tick reads as lowered (log 48). -/
def budgetData (s : State) : List Byte :=
  let effective := if s.node.state = .cutoff then .cutoff else s.power.tickLevel
  put16 s.power.vRest ++ put16 (min 65535 s.power.iTotal) ++ put16 s.power.avail ++ put16 s.power.allowance
    ++ [nibbles (levelRank s.power.level) (levelRank effective)]

/-- The IMAGE data (R58). -/
def imageData (s : State) : List Byte :=
  let held := [0, 1, 2, 3, 4, 5, 6, 7].map fun k => (s.node.staging.map Prod.fst).contains k
  (match s.node.image with
    | none => [0#8, 0#8, 0#8]
    | some i => [byteOf (sourceCode i.source), i.crc, byteOf i.clamped])
    ++ [byteOf s.node.assignIgnored, byteOf (bitsToNat held)]

/-! ## Views of the outputs (R140, R168) -/

/-- One leg in one PWM period: in ns from its start, when its high side and its low side are switched on and off. A side
switched on and off at the same time stays off. -/
structure LegPeriod where
  highFrom : Nat
  highTo : Nat
  lowFrom : Nat
  lowTo : Nat
  deriving DecidableEq, Repr

/-- Both sides off throughout. -/
def LegPeriod.off : LegPeriod := ⟨0, 0, 0, 0⟩

/-- The low side on from the period's start up to a time. -/
def LegPeriod.low (off : Nat) : LegPeriod := ⟨0, 0, 0, off⟩

/-- A complementary leg at a duty: the high side from the start, the low side after the dead time for the rest. A duty that
leaves less than twice the dead time holds the high side on throughout (R140). -/
def LegPeriod.switching (duty deadTime : Nat) : LegPeriod :=
  if 50000 - 50 * duty < 2 * deadTime then ⟨0, 50000, 0, 0⟩ else ⟨0, 50 * duty, 50 * duty + deadTime, 50000⟩

/-- The two legs of a bridge (Table 7-4). -/
inductive Leg where
  | one | two
  deriving DecidableEq, Repr

/-- A leg under a setting that neither follows nor precedes another (Table 7-4, R139, R140). -/
def legUnder (leg : Leg) (dragBrake deadTime : Nat) (set : Setting) : LegPeriod :=
  match set.mode, leg with
  | .off, _ => LegPeriod.off
  | .brake, _ => LegPeriod.low 50000
  | .drag, _ => LegPeriod.low (500 * dragBrake)
  | .fwd, .one => LegPeriod.switching set.duty deadTime
  | .fwd, .two => LegPeriod.low 50000
  | .rev, .one => LegPeriod.low 50000
  | .rev, .two => LegPeriod.switching set.duty deadTime

/-- The period starts with the leg's high side. -/
def LegPeriod.startsHigh (p : LegPeriod) : Bool := 0 < p.highTo

/-- The period ends with the leg's high side. -/
def LegPeriod.endsHigh (p : LegPeriod) : Bool := p.highTo = 50000

/-- The leg's low side is on in the period. -/
def LegPeriod.hasLow (p : LegPeriod) : Bool := p.lowFrom < p.lowTo

/-- The period ends with the leg's low side. -/
def LegPeriod.endsLow (p : LegPeriod) : Bool := p.hasLow && p.lowTo = 50000

/-- The dead time stands before the side that comes on first where the other side may have been on before it (R140, R142,
log 24). -/
def LegPeriod.after (p : LegPeriod) (deadTime : Nat) (high low : Bool) : LegPeriod :=
  if p.startsHigh then
    if low then
      { highFrom := deadTime, highTo := min 50000 (p.highTo + deadTime), lowFrom := p.lowFrom + deadTime
        lowTo := max p.lowTo (p.lowFrom + deadTime) }
    else p
  else if high then { p with lowFrom := min p.lowTo deadTime } else p

/-- Before a period that starts with the leg's high side the low side goes off by the dead time early (R140). -/
def LegPeriod.before (p : LegPeriod) (deadTime : Nat) (high : Bool) : LegPeriod :=
  if high then { p with lowTo := max p.lowFrom (min p.lowTo (50000 - deadTime)) } else p

/-- The setting that became active at the boundary of the present period. -/
def Bridge.begun (b : Bridge) : Setting := b.atOnce.getLast?.getD b.active

/-- The leg's high side may have been on before the active setting came: under one left at once in the present period, or at
the end of the period before (R140, R142). -/
def leftHigh (form : Setting → LegPeriod) (b : Bridge) : Bool :=
  b.atOnce.any (fun x => (form x).startsHigh) || (form b.left).endsHigh

/-- The same of the low side, which at the end of the period before has gone off where the high side follows it (R140). -/
def leftLow (form : Setting → LegPeriod) (b : Bridge) : Bool :=
  b.atOnce.any (fun x => (form x).hasLow) || ((form b.left).endsLow && !(form b.begun).startsHigh)

/-- A leg in the present period of a bridge: its active setting, after those that the bridge left and before the next one. -/
def presentLeg (leg : Leg) (dragBrake deadTime : Nat) (b : Bridge) : LegPeriod :=
  let form := legUnder leg dragBrake deadTime
  let p := (form b.active).after deadTime (leftHigh form b) (leftLow form b)
  p.before deadTime (form b.next).startsHigh

/-- The switching of one PWM period of a bridge. -/
structure BridgePeriod where
  leg1 : LegPeriod
  leg2 : LegPeriod
  deriving DecidableEq, Repr

/-- The present period of a bridge (Table 7-4, R140). -/
def presentPeriod (dragBrake deadTime : Nat) (b : Bridge) : BridgePeriod :=
  { leg1 := presentLeg .one dragBrake deadTime b, leg2 := presentLeg .two dragBrake deadTime b }

/-- The bridge A gates in the present period. -/
def bridgeAPeriod (s : State) : BridgePeriod :=
  presentPeriod (fieldsOf s).drive.dragBrake (fieldsOf s).drive.deadTime s.bridgeA

/-- The bridge B outputs in the present period (R120). -/
def bridgeBPeriod (s : State) : BridgePeriod := presentPeriod 0 (fieldsOf s).drive.deadTime s.bridgeB

/-- The level at a lamp's switch: the output monitor's during its test of the channel, else the active step; off in
STRAP (R168, R190). -/
def lampLevel (s : State) (l : Lamp) : Nat :=
  if s.node.state = .strap then 0
  else if s.monitor.position = some (.lampPresence l) then 0
  else if s.monitor.position = some (.lampRating l) then 255
  else (s.lights.channels.get l).active

/-- The on-time of a lamp's switch in each 1000 µs period (R168). -/
def lampOnMicros (s : State) (l : Lamp) : Nat := 1000 * lampLevel s l / 255

/-- The start of a lamp's periods: group B starts 500 µs after group A (R168). -/
def lampPhaseMicros : Lamp → Nat
  | .l0 => 0
  | .l1 => 0
  | .l2 => 500
  | .l3 => 500

end Sys2Proof.Machine
end

