-- ==== Sys2Proof/Machine/Ops.lean ====
section
/-! DEFINITION. The shared operations: the transmit set (R12 to R19), the queue's head (R11), REPORT placement and its
events (R42 to R44), fault records (R200), the bridges (R141, R142), the drum (R158, R163, R164) and the grants (R99). -/

namespace Sys2Proof.Machine

/-- What a step answers. -/
abbrev Answer := Host.Outcome State Fault Refusal

/-! ## Bus counters and the receive queue -/

/-- Change the bus counters. -/
def countBus (f : BusCounters → BusCounters) (s : State) : State :=
  s.setBus { s.bus with counters := f s.bus.counters }

def countFraming (s : State) : State := countBus (fun c => { c with framingErrors := bumpTo 255 c.framingErrors }) s
def countFormat (s : State) : State := countBus (fun c => { c with formatErrors := bumpTo 255 c.formatErrors }) s
def countCrc (s : State) : State := countBus (fun c => { c with crcErrors := bumpTo 255 c.crcErrors }) s
def countOverrun (s : State) : State := countBus (fun c => { c with overruns := bumpTo 255 c.overruns }) s
def countCollision (s : State) : State := countBus (fun c => { c with collisions := bumpTo 255 c.collisions }) s
def countLineFault (s : State) : State := countBus (fun c => { c with lineFaults := bumpTo 255 c.lineFaults }) s
def countTxDrop (s : State) : State := countBus (fun c => { c with txDrops := bumpTo 255 c.txDrops }) s
def countAnswerDrop (s : State) : State := countBus (fun c => { c with answerDrops := bumpTo 255 c.answerDrops }) s
def countCfgIgnored (s : State) : State := countBus (fun c => { c with cfgIgnored := bumpTo 255 c.cfgIgnored }) s

/-- The oldest frame leaves the receive queue (R11). -/
def popQueue (s : State) : State := s.setBus { s.bus with queue := s.bus.queue.tail }

/-- The oldest frame, when it is of a kind and not an own-station frame (R11). -/
def headOfKind (kind : FrameKind) (s : State) : Option RxFrame :=
  match s.bus.queue with
  | [] => none
  | f :: _ => if f.kind = kind ∧ f.own = false then some f else none

/-- The oldest frame, when it is an own-station frame (R9 case 4). -/
def headOwn (s : State) : Option RxFrame :=
  match s.bus.queue with
  | [] => none
  | f :: _ => if f.own then some f else none

/-! ## The transmit set -/

/-- The slot of a kind. -/
def Slots.get (x : Slots) : TxKind → Slot
  | .winch => x.winch
  | .report => x.report
  | .beat => x.beat
  | .answer => x.answer

/-- Replace the slot of a kind. -/
def Slots.put (x : Slots) (k : TxKind) (sl : Slot) : Slots :=
  match k with
  | .winch => { x with winch := sl }
  | .report => { x with report := sl }
  | .beat => { x with beat := sl }
  | .answer => { x with answer := sl }

/-- A frame newly held: not committed, attempt number 0, no backoff (R17). -/
def Held.fresh (f : TxFrame) : Held := { frame := f, committed := false, attempts := 0, backoff := none }

/-- The held frame leaves; its successor, if present, becomes the held frame (R13). -/
def Slot.leave (sl : Slot) : Slot :=
  { held := sl.next.map Held.fresh, next := none, withdrawDue := false, discardDue := false }

/-- A placement (R13); the flag says that a frame not yet committed was replaced. -/
def Slot.place (onLine : Bool) (f : TxFrame) (sl : Slot) : Slot × Bool :=
  match sl.held with
  | none => ({ sl with held := some (Held.fresh f) }, false)
  | some h =>
    if h.committed || onLine then ({ sl with next := some f }, sl.next.isSome)
    else ({ sl with held := some { h with frame := f } }, true)

/-- A withdrawal (R14); a frame on the line in its header is settled when the attempt ends. -/
def Slot.withdraw (onLine : Bool) (sl : Slot) : Slot :=
  match sl.held with
  | none => sl
  | some h =>
    if h.committed then { sl with next := none }
    else if onLine then { sl with withdrawDue := true }
    else Slot.empty

/-- RESTART (R22): only a frame on the line stays, to the end of its attempt. -/
def Slot.restart (onLine : Bool) (sl : Slot) : Slot :=
  if onLine then { sl with next := none, discardDue := true } else Slot.empty

/-- An attempt that ends in its header, by lost arbitration or line fault (R16, R14, R22); the flag says that the lost
frame was replaced by its successor. A frame that RESTART discards here is not replaced, though a successor follows it
(log 47). -/
def Slot.lose (sl : Slot) : Slot × Bool :=
  match sl.held with
  | none => (sl, false)
  | some h =>
    if h.committed then (if sl.discardDue then sl.leave else sl, false)
    else if sl.withdrawDue then (Slot.empty, false)
    else if sl.discardDue then (sl.leave, false)
    else match sl.next with
      | none => (sl, false)
      | some f => ({ sl with held := some (Held.fresh f), next := none }, true)

/-- A withdrawal that waited for its attempt removes only the successor once the header has passed (R14). -/
def Slot.passHeader (sl : Slot) : Slot := if sl.withdrawDue then { sl with next := none, withdrawDue := false } else sl

/-- The backoff in bit times after a collision (R17). -/
def backoffBits (serial : BitVec 24) (a : Nat) : Nat := (4 + serial.toNat % 16 + 2 * a) * 10

/-- A collision (R17); the flag says that the frame was dropped at its eighth. -/
def Slot.collide (serial : BitVec 24) (sl : Slot) : Slot × Bool :=
  match sl.passHeader.held with
  | none => (sl, false)
  | some h =>
    if sl.discardDue then (sl.passHeader.leave, false)
    else if 8 ≤ h.attempts + 1 then (sl.passHeader.leave, true)
    else
      ({ sl.passHeader with
          held := some { h with committed := true, attempts := h.attempts + 1
                                backoff := some (backoffBits serial (h.attempts + 1)) } }, false)

/-- Change one slot. -/
def setSlot (k : TxKind) (sl : Slot) (s : State) : State := s.setBus { s.bus with slots := s.bus.slots.put k sl }

/-- The slot whose frame is on the line. -/
def lineKind (s : State) : Option TxKind := s.bus.tx.attempt.map Attempt.kind

/-- Place a payload in its kind's slot; a node without a station number places nothing (R13). -/
def placeFrame (k : TxKind) (payload : List Byte) (s : State) : State :=
  match stationOf s with
  | none => s
  | some n =>
    let r := (s.bus.slots.get k).place (lineKind s = some k) { sender := n, payload }
    if r.2 && k = .answer then countAnswerDrop (setSlot k r.1 s) else setSlot k r.1 s

/-- Withdraw a kind's frames (R14). -/
def withdrawFrame (k : TxKind) (s : State) : State :=
  setSlot k ((s.bus.slots.get k).withdraw (lineKind s = some k)) s

/-- Place an ANSWER (R55). -/
def placeAnswer (asker code : Nat) (result : AnswerResult) (data : List Byte) (s : State) : State :=
  placeFrame .answer (answerPayload asker code result data) s

/-- The frame of the attempt leaves its slot, by completion or by loss to a break (R18, R19). -/
def finishAttempt (s : State) : State :=
  match s.bus.tx.attempt with
  | none => s
  | some a =>
    let s1 := setSlot a.kind (s.bus.slots.get a.kind).passHeader.leave s
    s1.setBus { s1.bus with tx := { s1.bus.tx with attempt := none } }

/-- A break request (R19, R103): the line is driven at once for 30 bit times. -/
def requestBreak (s : State) : State :=
  if s.bus.tx.breakLeft.isSome then s
  else
    let s1 := finishAttempt s
    s1.setBus { s1.bus with tx := { s1.bus.tx with breakLeft := some 30 }, rx := { s1.bus.rx with ownBreak := true } }

/-! ## REPORTs and fault records -/

/-- Place an ordinary REPORT: compose, advance the sequence, restart the timer, clear the held-event mark (R40 to
R44). -/
def placeReport (s : State) : State :=
  let s1 := placeFrame .report (reportPayload s) s
  s1.setNode { s1.node with sequence := (s1.node.sequence + 1) % 16, reportTimer := some 0, sinceReport := some 0
                            heldEvent := false }

/-- Raise an immediate-report event; it is acted on when the step ends (R43, log 12). -/
def raiseEvent (e : ReportEvent) (s : State) : State :=
  if eventSelected s e && reportsNow s then s.setNode { s.node with eventDue := true } else s

/-- The end of a step: events raised in it place one REPORT at once, or set the held-event mark within 5 ms of the last
placement (R43). -/
def settle (s : State) : State :=
  if s.node.eventDue then
    let s1 := s.setNode { s.node with eventDue := false }
    match s.node.sinceReport with
    | none => placeReport s1
    | some t => if 5 ≤ t then placeReport s1 else s1.setNode { s1.node with heldEvent := true }
  else s

/-- A step that ends in a next state, its events settled. -/
def done (s : State) : Answer := .next (settle s)

/-- Add a fault record with a given node state (R200). -/
def addFaultIn (st : NodeState) (kind : FaultKind) (output : FaultOutput) (detail : Int) (s : State) : State :=
  let r : FaultRecord := { kind, output, state := st, uptime := s.node.uptime, detail := clampInt (-32768) 32767 detail }
  raiseEvent .faultAdded (s.setMonitor { s.monitor with faults := (r :: s.monitor.faults).take 8 })

/-- Add a fault record in the present node state. -/
def addFault (kind : FaultKind) (output : FaultOutput) (detail : Int) (s : State) : State :=
  addFaultIn s.node.state kind output detail s

/-- Place a conflict notice and restart its 500 ms interval (R32). -/
def placeNotice (s : State) : State :=
  match s.node.conflict, stationOf s with
  | some c, some _ =>
    let s1 := placeFrame .report (noticePayload s.node.serial c.refused c.strapCode) s
    s1.setNode { s1.node with noticeTimer := some 0 }
  | _, _ => s

/-! ## Bridges -/

/-- Write the next setting of bridge A (R141). -/
def writeBridgeA (mode : BridgeMode) (duty : Nat) (s : State) : State :=
  s.setBridgeA { s.bridgeA with next := ⟨mode, duty⟩ }

/-- Write the next setting of bridge B (R120). -/
def writeBridgeB (mode : BridgeMode) (duty : Nat) (s : State) : State :=
  s.setBridgeB { s.bridgeB with next := ⟨mode, duty⟩ }

/-- A setting both active and next at once; one that finds the bridge already in it leaves no setting (R142). -/
def Bridge.force (b : Bridge) (mode : BridgeMode) (duty : Nat) : Bridge :=
  { next := ⟨mode, duty⟩, active := ⟨mode, duty⟩, left := b.left
    atOnce := if b.active = ⟨mode, duty⟩ then b.atOnce else b.active :: b.atOnce, used := b.used || drivesMode mode }

/-- The next setting becomes active at a PWM period boundary (R141). -/
def Bridge.boundary (b : Bridge) : Bridge :=
  { next := b.next, active := b.next, left := b.active, atOnce := [], used := b.used || drivesMode b.next.mode }

/-- Bridge A at once, without waiting for a boundary. -/
def forceBridgeA (mode : BridgeMode) (duty : Nat) (s : State) : State := s.setBridgeA (s.bridgeA.force mode duty)

/-- Bridge B at once. -/
def forceBridgeB (mode : BridgeMode) (duty : Nat) (s : State) : State := s.setBridgeB (s.bridgeB.force mode duty)

/-- Each immediate change also sets the ramped throttle and the integrator to 0 (R142). -/
def zeroDrive (s : State) : State := s.setDrive { s.drive with ramped := 0, integrator := 0 }

/-- Bridge A to its safe hold at once; any trip wait ends (R27, R142, R144). -/
def holdBridgeA (s : State) : State :=
  forceBridgeA (safeModeA s) 0 (zeroDrive (s.setDrive { s.drive with tripWait := none }))

/-- Bridge A to BRAKE at once; a withdrawal keeps its hold (R142, R158, R162). A trip wait goes on (log 18). -/
def brakeBridgeA (s : State) : State := forceBridgeA (safeModeA s) 0 (zeroDrive s)

/-- Bridge A at SHUTDOWN: BRAKE at once, but a trip wait leaves it OFF (R146). -/
def shutBridgeA (s : State) : State := if s.drive.tripWait.isSome then zeroDrive s else brakeBridgeA s

/-- The marks of use and of ceiling cuts start afresh: at each budget tick and when the supervisor starts or stops (R97,
R106). -/
def clearMarks (s : State) : State :=
  let s1 := (s.setBridgeA { s.bridgeA with used := drivesMode s.bridgeA.active.mode }).setBridgeB
    { s.bridgeB with used := drivesMode s.bridgeB.active.mode }
  let s2 := (s1.setDrive { s1.drive with limited := false }).setSteer { s1.steer with limited := false }
  s2.setWinch { s2.winch with drumLimited := false, solenoidLimited := false }

/-- Bridge B OFF at once, the actuator loop suspended (R120). -/
def offBridgeB (s : State) : State :=
  let s1 := forceBridgeB .off 0 s
  s1.setSteer { s1.steer with loop := false }

/-! ## The drum -/

/-- Place a WINCH frame and restart its timer (R164). -/
def placeWinch (s : State) : State :=
  let s1 := placeFrame .winch (winchPayload s) s
  s1.setWinch { s1.winch with winchTimer := some 0 }

/-- A drum state in which an operation runs. -/
def isRunningDrum : DrumState → Bool
  | .haulIn => true
  | .payOut => true
  | .braked => false
  | .engaging => false
  | .stalled => false
  | .atLimitIn => false
  | .atLimitOut => false
  | .freespool => false
  | .withdrawn => false

/-- Change the drum state: the stall window closes, the cap clears outside HAUL_IN, the integrator starts at 0 in HAUL_IN
and PAY_OUT; a change places a WINCH frame and is an immediate-report event (R157, R159, R164, R165). -/
def setDrum (d : DrumState) (s : State) : State :=
  if s.winch.drum = d then s
  else
    let cap := if d = .haulIn then s.winch.cap else none
    let integrator := if isRunningDrum d then 0 else s.winch.integrator
    let s1 := s.setWinch { s.winch with drum := d, stallWindow := none, cap, integrator, engageTimer := none }
    let s2 := if isServing s1.node.state && roleOf s1 = .winch then placeWinch s1 else s1
    raiseEvent .drumChange s2

/-- The log record of an operation ending now (R163). -/
def logOf (r : OperationRecord) (reason : EndReason) (s : State) : LogRecord :=
  { dir := r.dir, latency := r.firstEdge.map fun t => t - r.start, duration := min 65535 (s.now - r.start)
    peak := r.peak, lineOut := s.winch.lineOut / 100, reason }

/-- Close the operation record: logged from HAUL_IN and PAY_OUT, discarded from ENGAGING (R158, R163). -/
def closeOperation (reason : EndReason) (s : State) : State :=
  match s.winch.op with
  | none => s
  | some r =>
    if isRunningDrum s.winch.drum then
      s.setWinch { s.winch with op := none, log := (logOf r reason s :: s.winch.log).take 4 }
    else s.setWinch { s.winch with op := none }

/-- End an operation into a drum state, with BRAKE at once (R158). -/
def endOperation (reason : EndReason) (d : DrumState) (s : State) : State :=
  setDrum d (brakeBridgeA (closeOperation reason s))

/-- R162: the drum enters BRAKED from every state but WITHDRAWN, bridge B OFF. -/
def releaseDrum (reason : EndReason) (s : State) : State :=
  if roleOf s = .winch then
    let s1 := offBridgeB (closeOperation reason s)
    if s1.winch.drum = .withdrawn then s1 else setDrum .braked s1
  else s

/-! ## The power supervisor's grants -/

/-- The grants of an allowance in the order of Table 5-6 (R99). -/
def divideGrants (allowance : Nat) (d : Consumers) : Consumers :=
  let b := min d.bridgeB allowance
  let r := min d.required (allowance - b)
  let a := min d.bridgeA (allowance - b - r)
  { bridgeB := b, required := r, bridgeA := a, aux := min d.aux (allowance - b - r - a) }

/-- The allowance and every grant become 0 at once (R96). -/
def dropAllowance (s : State) : State := s.setPower { s.power with allowance := 0, grants := Consumers.zero }

/-- THERMAL_WARN is raised: an allowance above the reduced cap is lowered, the grants divided again (R96). -/
def lowerAllowance (s : State) : State :=
  if allowanceCap s < s.power.allowance then
    s.setPower { s.power with allowance := allowanceCap s, grants := divideGrants (allowanceCap s) s.power.demands }
  else s

/-- The ceiling of a consumer at its tick: down 50 when the current exceeds the grant, else up 10 (R124, R137, R160). -/
def moveCeiling (current grant ceiling : Nat) : Nat :=
  if grant < current then ceiling - 50 else min 1000 (ceiling + 10)

end Sys2Proof.Machine
end

