-- ==== Sys2Proof/Machine/Entries.lean ====
section
/-! DEFINITION. The entries to the node states (R25 to R31, R69, R101), an image coming into force (R24, R36, R128), the
resets of Table 2-7, and the CHECK sequence from step to step (R186 to R196). -/

namespace Sys2Proof.Machine

/-! ## Effects that several entries share -/

/-- The intake at every entry to LISTEN, CHECK, CONFLICT and CUTOFF (R75). -/
def clearIntake (s : State) : State :=
  s.setIntake
    { bound := none, marker := none, linkAge := none, stage := .none
      record := { s.intake.record with throttle := 0, steer := 0, lever := 0, hazard := false, assist := false
                                       freespool := false } }

/-- The steering unit at every entry to LISTEN, CHECK, CONFLICT and CUTOFF (R127). -/
def clearSteer (s : State) : State :=
  let s1 := offBridgeB s
  s1.setSteer { s1.steer with pendingMode := none, stallWindow := none, stallLimit := none, centered := false
                              geometry := Geometry.straightIn s1.steer.mode, presented := 0 }

/-- A CHECK step in progress is abandoned; the results given so far are kept (R196). -/
def abandonCheck (s : State) : State :=
  s.setMonitor { s.monitor with position := none, waiting := false, newRatings := Quad.all none
                                record := { s.monitor.record with inProgress := false } }

/-- The bridge B trip wait ends at an entry to a safe-output state or to CUTOFF (R197). -/
def endTripWaitB (s : State) : State := s.setMonitor { s.monitor with tripWait := none }

/-- The outputs go safe (R27, R102, R162). -/
def goSafe (reason : EndReason) (s : State) : State :=
  holdBridgeA (releaseDrum reason (endTripWaitB (clearSteer s)))

/-- The node state changes: the staging image, the LISTEN timers and ARM_WAIT end with the state left (R26, R29). Outside
SAFE, RUN and FAILSAFE the allowance and grants are 0, the WINCH timer stops and the brake hold is 0 (R96, R164, R180). -/
def moveTo (st : NodeState) (s : State) : State :=
  let s1 := s.setNode { s.node with state := st, staging := [], silenceTimer := none, defaultTimer := none
                                    armWait := false }
  if isServing st then s1
  else
    let s2 := dropAllowance s1
    let s3 := s2.setWinch { s2.winch with winchTimer := none }
    s3.setLights { s3.lights with brakeHold := 0 }

/-- The loss count is 0 at every entry to SAFE, RUN and FAILSAFE (R126). -/
def clearLoss (s : State) : State := s.setSteer { s.steer with lossCount := 0 }

/-- The functions of the four channels, by the node's position class (R167). -/
def setFunctions (l : ImageLights) (s : State) : State :=
  match s.node.position with
  | none => s
  | some p =>
    let f := lampsOfClass l p
    s.setLights { s.lights with
      channels := Quad.ofLamp fun c => { s.lights.channels.get c with function := some (f.get c) } }

/-- The beat timer starts if it has not (R169). -/
def startBeat (s : State) : State :=
  if s.lights.beatTimer.isSome then s else s.setLights { s.lights with beatTimer := some 0 }

/-- Every channel dark at once, CUTOFF pending on MARKER and TAILBRAKE (R176). -/
def darkenForCutoff (s : State) : State :=
  s.setLights { s.lights with
    channels := Quad.ofLamp fun c =>
      { s.lights.channels.get c with
          current := .off, staged := 0, active := 0
          pending :=
            if functionOf s c = some .marker ∨ functionOf s c = some .tailbrake then some (.show .cutoff 64)
            else none } }

/-! ## Entries to LISTEN, RUN, FAILSAFE, CUTOFF and CONFLICT -/

/-- Entry to LISTEN (R25). The stopped supervisor's 10 ms test counts from here (R90, log 41). -/
def enterListen (s : State) : State :=
  let s1 := clearIntake (goSafe .fault (abandonCheck (moveTo .listen s)))
  let s2 := s1.setNode { s1.node with silenceTimer := some 0, defaultTimer := some 0, reportTimer := none
                                      sinceReport := none, heldEvent := false, eventDue := false, noticeTimer := none }
  let s3 := s2.setPower { s2.power with timer := 0 }
  startBeat (setFunctions defaultFields.lights s3)

/-- Entry to RUN (R29, R73): the ramp starts from 0. -/
def enterRun (s : State) : State :=
  let s1 := zeroDrive (clearLoss (moveTo .run s))
  s1.setIntake { s1.intake with stage := .none }

/-- Entry to FAILSAFE at stage 1 (R68, R69): the winch stops at once, the other units at their own next ticks. -/
def enterFailsafe (s : State) : State :=
  let s1 := clearLoss (moveTo .failsafe s)
  let s2 := s1.setIntake { s1.intake with bound := none, stage := .one }
  let s3 := if roleOf s2 = .winch then releaseDrum .failsafe (brakeBridgeA s2) else s2
  raiseEvent .failsafeEntry s3

/-- The causes that send a break (Table 5-13). -/
def isOwnCause : CutoffCause → Bool
  | .ownCell => true
  | .ownPack => true
  | .breakHeard => false
  | .peer => false

/-- The report timer starts at an entry to CUTOFF from CONFLICT or during the silence timer (R42, R101). -/
def startReportTimer (s : State) : State :=
  if s.node.position.isSome && s.node.reportTimer.isNone then s.setNode { s.node with reportTimer := some 0 } else s

/-- Entry to CUTOFF (R101, R102); in STRAP the cause is not acted on, in CUTOFF it changes nothing. -/
def enterCutoff (cause : CutoffCause) (s : State) : State :=
  if s.node.state = .strap ∨ s.node.state = .cutoff then s
  else
    let left := s.node.state
    let s1 := clearIntake (goSafe .cutoff (abandonCheck (moveTo .cutoff s)))
    let s2 := darkenForCutoff (startReportTimer s1)
    let s3 := s2.setNode { s2.node with noticeTimer := none }
    let s4 := s3.setPower { s3.power with cause := some cause }
    let s5 := addFaultIn left .cutoff .none (cutoffCauseCode cause) s4
    if isOwnCause cause then requestBreak s5 else s5

/-- Entry to CONFLICT (R31). -/
def enterConflict (cause : ConflictCause) (strapCode : Nat) (s : State) : State :=
  let left := s.node.state
  let s1 := goSafe .fault (abandonCheck (moveTo .conflict s))
  let s2 := s1.setNode { s1.node with conflict := some { cause, strapCode, refused := false }, reportTimer := none
                                      heldEvent := false, eventDue := false, noticeTimer := none }
  let s3 := clearIntake (addFaultIn left .conflict .none (conflictCauseCode cause) s2)
  startBeat (placeNotice s3)

/-! ## The CHECK sequence -/

/-- A withdrawal of bridge A: the hold is fixed from a check result (R145, R193), the drum enters WITHDRAWN (R161). -/
def withdrawA (result : CheckResult) (s : State) : State :=
  let lowSidesGood := result = .ok || result = .opened || result = .shortGnd || result = .lowR
  let holds := roleOf s = .corner || roleOf s = .winch
  let hold : BridgeMode := if lowSidesGood && holds then .brake else .off
  let s1 := s.setMonitor { s.monitor with withdrawn := { s.monitor.withdrawn with bridgeA := true }
                                          holdA := some hold }
  let s2 := forceBridgeA hold 0 (zeroDrive s1)
  if roleOf s2 = .winch then setDrum .withdrawn (offBridgeB (closeOperation .fault s2)) else s2

/-- A withdrawal of bridge B: held OFF (R193); FREESPOOL ends (R160). -/
def withdrawB (s : State) : State :=
  let s1 := offBridgeB (s.setMonitor { s.monitor with withdrawn := { s.monitor.withdrawn with bridgeB := true } })
  if s1.winch.drum = .freespool then setDrum .braked s1 else s1

/-- A lamp channel shorted: off at once, withdrawn, recorded (R183, R190). -/
def withdrawLamp (l : Lamp) (current : Nat) (s : State) : State :=
  let s1 := s.setLights { s.lights with
    channels := s.lights.channels.put l { s.lights.channels.get l with staged := 0, active := 0 } }
  let s2 := s1.setMonitor { s1.monitor with
    withdrawn := { s1.monitor.withdrawn with lamps := s1.monitor.withdrawn.lamps.put l true } }
  addFault .lampShort (.lamp l) (min 255 current) s2

/-- A sensor reading outside -40 to 180 °C is implausible (R199). -/
def implausible (reading : Int) : Bool := reading < -40 || 180 < reading

/-- The class a plausible reading gives, from the class held (Table 10-6). -/
def classOf (held : ThermalClass) (reading : Int) : ThermalClass :=
  if 140 ≤ reading then .shutdown
  else if reading < 100 then .normal
  else match held with
    | .normal => if 110 ≤ reading then .warn else .normal
    | .warn => .warn
    | .shutdown => if reading < 130 then .warn else .shutdown

/-- The state of a sensor. -/
def sensorOf (t : Sensor) (m : Monitor) : SensorState :=
  match t with
  | .ts1 => m.ts1
  | .die => m.die

/-- Replace the state of a sensor. -/
def setSensor (t : Sensor) (x : SensorState) (s : State) : State :=
  match t with
  | .ts1 => s.setMonitor { s.monitor with ts1 := x }
  | .die => s.setMonitor { s.monitor with die := x }

/-- A sensor's fault flag is set: the sensor is classed WARN, a record is added (R191, R199). -/
def failSensor (t : Sensor) (reading : Int) (s : State) : State :=
  let x := sensorOf t s.monitor
  let s1 := setSensor t { x with reading, thermal := .warn, fault := true, implausible := 0 } s
  addFault .thermalSensor (.sensor t) reading s1

/-- What a change of the thermal class does at once, in CHECK as elsewhere (R96, R146, R161, R198, log 15). The pull steps
of CHECK are no exception: bridge A leaves their OFF for BRAKE, which R146 and R198 say and R188 does not (log 36). -/
def thermalEffects (before : ThermalClass) (s : State) : State :=
  let now := thermalClass s
  let s1 := if before = .normal ∧ now ≠ .normal then lowerAllowance s else s
  if before ≠ .shutdown ∧ now = .shutdown then
    let t : Sensor := if s.monitor.ts1.thermal = .shutdown then .ts1 else .die
    let s2 := addFault .overtemp (.sensor t) (sensorOf t s.monitor).reading (offBridgeB s1)
    let s3 := shutBridgeA s2
    match s3.winch.drum with
    | .haulIn => setDrum .braked (closeOperation .fault s3)
    | .payOut => setDrum .braked (closeOperation .fault s3)
    | .engaging => setDrum .braked (closeOperation .fault s3)
    | .freespool => setDrum .braked s3
    | .braked => s3
    | .stalled => s3
    | .atLimitIn => s3
    | .atLimitOut => s3
    | .withdrawn => s3
  else s1

/-- Step 9 for one sensor (R191); a fault flag already set adds no record (log 37). -/
def checkSensor (t : Sensor) (reading : Int) (s : State) : State :=
  let x := sensorOf t s.monitor
  if implausible reading then
    if x.fault then setSensor t { x with reading } s else failSensor t reading s
  else setSensor t { x with reading, thermal := classOf x.thermal reading, fault := false, implausible := 0 } s

/-- Step 9: both sensors read once, as they stand at the pins (R191). -/
def temperatureStep (s : State) : State :=
  thermalEffects (thermalClass s) (checkSensor .die s.pins.die (checkSensor .ts1 s.pins.ts1 s))

/-- The steps in the order of Table 10-3; a rating follows its presence test, the sweep has one place. -/
def allSteps : List CheckStep :=
  [.supply, .pullDownA, .pullUpA, .loadA, .pullDownB, .pullUpB, .loadB, .lampPresence .l0, .lampPresence .l1,
    .lampPresence .l2, .lampPresence .l3, .temperature, .sweepLeft]

/-- The place of a step in `allSteps`. -/
def stepPlace : CheckStep → CheckStep
  | .lampRating l => .lampPresence l
  | .sweepRight => .sweepLeft
  | .sweepReturn => .sweepLeft
  | .supply => .supply
  | .pullDownA => .pullDownA
  | .pullUpA => .pullUpA
  | .loadA => .loadA
  | .pullDownB => .pullDownB
  | .pullUpB => .pullUpB
  | .loadB => .loadB
  | .lampPresence l => .lampPresence l
  | .temperature => .temperature
  | .sweepLeft => .sweepLeft

/-- The steps after one. -/
def stepsAfter (st : CheckStep) : List CheckStep := (allSteps.dropWhile fun x => x ≠ stepPlace st).tail

/-- A step that drives a bridge: 4, 7 and 10 (R196). -/
def isDriving : CheckStep → Bool
  | .loadA => true
  | .loadB => true
  | .sweepLeft => true
  | .sweepRight => true
  | .sweepReturn => true
  | .supply => false
  | .pullDownA => false
  | .pullUpA => false
  | .pullDownB => false
  | .pullUpB => false
  | .lampPresence _ => false
  | .lampRating _ => false
  | .temperature => false

/-- The steps skipped (R186): a withdrawn output, or a role without the output. -/
def skipsStep (s : State) (st : CheckStep) : Bool :=
  let driven := roleOf s = .corner || roleOf s = .winch
  match st with
  | .supply => false
  | .pullDownA => !driven || s.monitor.withdrawn.bridgeA
  | .pullUpA => !driven || s.monitor.withdrawn.bridgeA
  | .loadA => !driven || s.monitor.withdrawn.bridgeA
  | .pullDownB => !driven || s.monitor.withdrawn.bridgeB
  | .pullUpB => !driven || s.monitor.withdrawn.bridgeB
  | .loadB => !driven || s.monitor.withdrawn.bridgeB
  | .lampPresence l => s.monitor.withdrawn.lamps.get l
  | .lampRating l => s.monitor.withdrawn.lamps.get l
  | .temperature => false
  | .sweepLeft => roleOf s ≠ .corner || s.monitor.withdrawn.bridgeB
  | .sweepRight => roleOf s ≠ .corner || s.monitor.withdrawn.bridgeB
  | .sweepReturn => roleOf s ≠ .corner || s.monitor.withdrawn.bridgeB

/-- The safe hold of bridge A between steps: OFF during a trip wait, unless a withdrawal holds it (R144, R186). -/
def restModeA (s : State) : BridgeMode :=
  if s.drive.tripWait.isSome && !s.monitor.withdrawn.bridgeA then .off else safeModeA s

/-- Both bridges in the safe hold between steps (R186). -/
def restBridges (s : State) : State := offBridgeB (forceBridgeA (restModeA s) 0 s)

/-- The outputs of a step that begins (R188 to R192). -/
def driveStep (st : CheckStep) (s : State) : State :=
  match st with
  | .pullDownA => forceBridgeA .off 0 s
  | .pullUpA => forceBridgeA .off 0 s
  | .loadA => forceBridgeA .fwd 100 s
  | .pullDownB => forceBridgeB .off 0 s
  | .pullUpB => forceBridgeB .off 0 s
  | .loadB => forceBridgeB .fwd 100 s
  | .sweepLeft => forceBridgeB .rev 400 s
  | .sweepRight => forceBridgeB .fwd 400 s
  | .sweepReturn => forceBridgeB .rev 300 s
  | .supply => s
  | .lampPresence _ => s
  | .lampRating _ => s
  | .temperature => s

/-- A step begins: its time starts, VPACK is read for a load pulse, a sweep phase takes its first reading as it begins
(R192). -/
def beginStep (st : CheckStep) (s : State) : State :=
  let left := match st with
    | .sweepRight => s.monitor.sweep.left
    | .sweepReturn => s.monitor.sweep.left
    | _ => none
  let bad := match st with
    | .sweepRight => s.monitor.sweep.bad
    | .sweepReturn => s.monitor.sweep.bad
    | _ => 0
  driveStep st (s.setMonitor { s.monitor with position := some st, waiting := false, stepTimer := 0
                                              pulseVpack := s.pins.vpack
                                              sweep := { s.monitor.sweep with elapsed := 0
                                                                              readings := [s.pins.pot], bad, left } })

/-- Entry to SAFE (R186, R27, R126, R164). -/
def enterSafe (s : State) : State :=
  let s1 := clearLoss (abandonCheck (moveTo .safe s))
  let s2 := holdBridgeA (releaseDrum .fault (endTripWaitB (offBridgeB s1)))
  if roleOf s2 = .winch then placeWinch s2 else s2

/-- Step 8 starts: earlier absent findings are cleared (R190). -/
def startLamps (s : State) : State :=
  s.setMonitor { s.monitor with absent := Quad.all false, newRatings := Quad.all none }

/-- Step 8 has ended: its ratings replace the earlier ones (R190, R195, log 20). -/
def commitRatings (s : State) : State :=
  let keep := fun c => match s.monitor.newRatings.get c with
    | none => s.monitor.ratings.get c
    | some r => some r
  s.setMonitor { s.monitor with ratings := Quad.ofLamp keep, newRatings := Quad.all none }

/-- VPACK passes the supply test (R187). -/
def supplyPasses (vpack : Int) : Bool := 5500 ≤ vpack && vpack ≤ 18500

/-- What happens on reaching a step's place, before it is begun or skipped. -/
def reachStep (st : CheckStep) (s : State) : State :=
  match st with
  | .lampPresence .l0 => startLamps s
  | .temperature => temperatureStep (commitRatings s)
  | _ => s

/-- Go on to the first of these steps that takes time; at the list's end the node enters SAFE (R186). -/
def advance : List CheckStep → State → State
  | [], s => enterSafe s
  | st :: rest, s =>
    let s1 := reachStep st s
    if st = .temperature || skipsStep s1 st then advance rest s1
    else if st = .supply && supplyPasses s1.pins.vpack then advance rest s1
    else if isDriving st && thermalClass s1 = .shutdown then
      s1.setMonitor { s1.monitor with position := some st, waiting := true, stepTimer := 0 }
    else beginStep st s1

/-- The step in progress ends: the bridges return to the safe hold and the next step begins (R186). -/
def completeStep (st : CheckStep) (s : State) : State :=
  advance (stepsAfter st) (restBridges (s.setMonitor { s.monitor with position := none, waiting := false }))

/-- The CHECK sequence from step 1 (R186, R187). -/
def startSequence (s : State) : State := advance allSteps (s.setMonitor { s.monitor with position := none })

/-- Entry to CHECK (R28, R186). -/
def enterCheck (s : State) : State :=
  let s1 := clearIntake (goSafe .fault (moveTo .check s))
  startSequence (s1.setMonitor { s1.monitor with record := CheckRecord.untested true, waiting := false })

/-! ## An image comes into force; the resets -/

/-- The taps C1 to C(cell_count) all read 2000 to 4500 mV (R24). -/
def tapsWired (count : Nat) (cells : Quad Nat) : Bool :=
  (cells.toList.take count).all fun v => 2000 ≤ v && v ≤ 4500

/-- The wheel figures (R128). -/
def wheelFigures (d : ImageDrive) : WheelFigures :=
  let c := (d.wheelDiameter * 355 + 56) / 113
  { circumference := c, vMaxCps := (d.vMax * d.countsPerRev + c / 2) / c }

/-- An image comes into force: roles, functions, the wheel figures of a corner and the power supervisor start (R24, R35,
R77, R97, R128, R147, R166, R167). On the winch position the limit samples and the control ticks start with the role, so the
first sample comes 4 ms and the first control tick 5 ms after it (log 34). -/
def applyImage (img : ImageInForce) (s : State) : State :=
  let v := img.fields.vehicle
  let monitorHere := stationOf s = some v.packMonitorPosition && tapsWired v.cellCount s.pins.cells
  let s1 := s.setNode { s.node with image := some img, staging := [], packMonitor := monitorHere }
  let s2 := s1.setDrive { s1.drive with
    figures := if roleOf s1 = .corner then some (wheelFigures img.fields.drive) else none }
  let s3 := setFunctions img.fields.lights s2
  let s4 := clearMarks (s3.setPower { Power.reset with running := true })
  if roleOf s4 = .winch then
    holdBridgeA (s4.setWinch { s4.winch with filter0 := LimitFilter.reset, filter1 := LimitFilter.reset
                                             filterTimer := 0, timer := 0 })
  else s4

/-- The output monitor at RESTART (R201); with the sensors' classes and flags their runs of implausible readings and the
10 ms reading timer go on (log 39). -/
def Monitor.restart (m : Monitor) : Monitor :=
  { Monitor.reset with ts1 := m.ts1, die := m.die, tempTimer := m.tempTimer, faults := m.faults }

/-- The bus port at RESTART (R22). -/
def Bus.restart (b : Bus) : Bus :=
  let on := b.tx.attempt.map Attempt.kind
  { b with
    queue := []
    counters := BusCounters.zero
    slots :=
      { winch := b.slots.winch.restart (on = some .winch), report := b.slots.report.restart (on = some .report)
        beat := b.slots.beat.restart (on = some .beat), answer := b.slots.answer.restart (on = some .answer) } }

/-- The node controller at RESTART (Table 2-7, R44). -/
def Node.restart (n : Node) : Node :=
  { n with image := none, defaultConfig := false, staging := [], armWait := false, assignIgnored := 0, sequence := 0
           heldEvent := false, eventDue := false, sinceReport := none, reportTimer := none, packMonitor := false }

/-- The blocks at RESTART and at an accepted ASSIGN (Table 2-7, R22, R49, R76, R106, R127, R148, R166, R185, R201). -/
def restartBlocks (s : State) : State :=
  let w := { Winch.reset with lineOut := s.winch.lineOut, referenced := s.winch.referenced, log := s.winch.log }
  let s1 := (s.setNode s.node.restart).setBus s.bus.restart
  let s2 := ((s1.setPeers Peers.reset).setIntake Intake.reset).setPower Power.reset
  let s3 := ((s2.setSteer Steer.reset).setDrive Drive.reset).setWinch w
  let s4 := (s3.setLights Lights.reset).setMonitor s.monitor.restart
  clearMarks (holdBridgeA (forceBridgeB .off 0 s4))

end Sys2Proof.Machine
end

