-- ==== Sys2Proof/Machine/Geometry.lean ====
section
/-! DEFINITION. The steering geometry (R109 to R118): turn centre, tangents, wheel angle and speed ratio. -/

namespace Sys2Proof.Machine

/-! ## The tangent table (Table 6-6) -/

/-- T[0] to T[15] in Q12. -/
def tangents : List Nat :=
  [0, 215, 431, 649, 871, 1098, 1331, 1572, 1824, 2087, 2365, 2660, 2976, 3317, 3688, 4096]

/-- The tangent of an angle of 0 to 450 tenths (R112). -/
def tanOf (angle : Nat) : Nat :=
  let i := angle / 30
  let f := angle % 30
  let a := tangents.getD i 4096
  let b := tangents.getD (i + 1) 4096
  a + ((b - a) * f + 15) / 30

/-- Search the steps of the table from an index on (R113). -/
def atanFrom (t : Nat) : Nat → List Nat → Nat
  | i, a :: b :: rest => if t < b then 30 * i + ((t - a) * 30 + (b - a) / 2) / (b - a) else atanFrom t (i + 1) (b :: rest)
  | _, [_] => 450
  | _, [] => 450

/-- The arctangent of a Q12 value, in tenths (R113). -/
def atanOf (t : Nat) : Nat := atanFrom t 0 tangents

/-! ## Axles and the turn centre -/

/-- The front, middle and rear axles. -/
inductive Axle where
  | front | middle | rear
  deriving DecidableEq, Repr

/-- The axles of the vehicle (R109). -/
def axlesOf (v : ImageVehicle) : List Axle :=
  if v.axleCount = 3 then [.front, .middle, .rear] else [.front, .rear]

/-- The offset of an axle in mm. -/
def axleX (f : ImageSteer) : Axle → Int
  | .front => f.xFront
  | .middle => f.xMid
  | .rear => f.xRear

/-- The limit of an axle in tenths. -/
def axleLim (f : ImageSteer) : Axle → Nat
  | .front => f.limFront
  | .middle => f.limMid
  | .rear => f.limRear

/-- The axle of a corner (Table 6-3). -/
def axleAt (v : ImageVehicle) : Position → Option Axle
  | .fl => some .front
  | .fr => some .front
  | .ml => if v.axleCount = 3 then some .middle else none
  | .mr => if v.axleCount = 3 then some .middle else none
  | .rl => some .rear
  | .rr => some .rear
  | .ca => none
  | .cb => none

/-- The axles a mode names (Table 6-4). -/
def modeNames (m : SteerMode) (a : Axle) : Bool :=
  match m with
  | .front => a = .front
  | .rear => a = .rear
  | .counter => true
  | .crab => true

/-- An axle steers when the mode names it and its limit is above 0 (R109). -/
def steersIn (f : ImageSteer) (m : SteerMode) (a : Axle) : Bool := modeNames m a && 0 < axleLim f a

/-- The turn centre x_c (Table 6-5). -/
def turnCentre (i : Image) (m : SteerMode) : Int :=
  let f := i.steer
  let three := i.vehicle.axleCount = 3
  match m with
  | .front => if three then rdiv (f.xMid + f.xRear) 2 else f.xRear
  | .rear => if three then rdiv (f.xFront + f.xMid) 2 else f.xFront
  | .counter => rdiv (f.xFront + f.xRear) 2
  | .crab => 0

/-- The reference axle of FRONT, REAR and COUNTER (R110). -/
def referenceAxle (i : Image) (m : SteerMode) : Option Axle :=
  let f := i.steer
  let c := turnCentre i m
  let frontFirst := (f.xRear - c).natAbs ≤ (f.xFront - c).natAbs
  let order : List Axle := match m with
    | .front => [.front]
    | .rear => [.rear]
    | .counter => if frontFirst then [.front, .rear] else [.rear, .front]
    | .crab => []
  order.find? fun a => steersIn f m a

/-- The figures of a turn that is not straight: x_c, L_ref, t_ref and R (R110, R114). -/
structure Turn where
  centre : Int
  length : Nat
  tangent : Nat
  radius : Nat
  deriving DecidableEq, Repr

/-- The straight test (R114): none when the steer is straight. -/
def turnOf (i : Image) (m : SteerMode) (s : Int) : Option Turn :=
  match referenceAxle i m with
  | none => none
  | some a =>
    let centre := turnCentre i m
    let length := (axleX i.steer a - centre).natAbs
    let tangent := tanOf (rdiv (s * axleLim i.steer a) 1000).natAbs
    if length = 0 ∨ tangent = 0 then none
    else
      let radius := (length * 4096 + tangent / 2) / tangent
      if 20000 < radius then none else some { centre, length, tangent, radius }

/-! ## The wheel -/

/-- The magnitude of a wheel's angle (R115, R116). -/
def wheelAngle (t : Turn) (inner : Bool) (halfTrack lim : Nat) (d : Nat) : Nat :=
  let den : Int := if inner then (t.length * 4096 : Int) - halfTrack * t.tangent else t.length * 4096 + halfTrack * t.tangent
  if den ≤ 0 then lim
  else min lim (atanOf ((d * t.tangent * 4096 + den.toNat / 2) / den.toNat))

/-- The wheel's geometry target (R116). -/
def wheelTarget (t : Turn) (inner steers : Bool) (halfTrack lim : Nat) (d s : Int) : Int :=
  if steers = false ∨ d = 0 then 0
  else
    let a : Int := wheelAngle t inner halfTrack lim d.natAbs
    if (0 < d) = (0 < s) then a else -a

/-- The greatest d² over every axle of the vehicle (R117). -/
def maxAxleSquare (i : Image) (centre : Int) : Nat :=
  (axlesOf i.vehicle).foldl (fun m a => max m ((axleX i.steer a - centre).natAbs ^ 2)) 0

/-- The speed ratio q of a wheel (R117). -/
def speedRatio (i : Image) (t : Turn) (inner : Bool) (d : Int) : Nat :=
  let w := i.steer.halfTrack
  let across := if inner then ((t.radius : Int) - w).natAbs else t.radius + w
  let r := isqrt (d.natAbs ^ 2 + across ^ 2)
  let rMax := isqrt (maxAxleSquare i t.centre + (t.radius + w) ^ 2)
  (r * 1000 + rMax / 2) / rMax

/-- The side of a position in a turn toward the sign of s (R115). -/
def isInner (p : Position) (s : Int) : Bool := if 0 < s then sideOf p = .right else sideOf p = .left

/-- The geometry result of a corner (R109 to R118). -/
def geometryOf (i : Image) (p : Position) (m : SteerMode) (s : Int) (indicator : LeftRight) : Geometry :=
  let f := i.steer
  if m = .crab then
    let target := match axleAt i.vehicle p with
      | none => 0
      | some a => if steersIn f m a then rdiv (s * axleLim f a) 1000 else 0
    { mode := m, straight := false, target, side := .none, q := 1000, indicator }
  else match turnOf i m s with
    | none => { mode := m, straight := true, target := 0, side := .none, q := 1000, indicator }
    | some t =>
      match axleAt i.vehicle p with
      | none => { mode := m, straight := false, target := 0, side := .none, q := 1000, indicator }
      | some a =>
        let inner := isInner p s
        let d := axleX f a - t.centre
        { mode := m, straight := false
          target := wheelTarget t inner (steersIn f m a) f.halfTrack (axleLim f a) d s
          side := if inner then .inner else .outer, q := speedRatio i t inner d, indicator }

/-- The indicator direction of a steer value (R107). -/
def indicatorOf (s : Int) : LeftRight := if 300 < s then .right else if s < -300 then .left else .none

/-- The active and pending modes after a taken command, which either asks for the active mode or makes its own the
pending one (R108). -/
def settleModes (active asked : SteerMode) (s : Int) : SteerMode × Option SteerMode :=
  if asked = active then (active, none)
  else if s.natAbs < 100 then (asked, none)
  else (active, some asked)

/-! ## The unit's readings of the figure of R53 -/

/-- Axle-mate centring acts in SAFE, RUN and FAILSAFE on a node with an axle (R122). -/
def centring (s : State) : Bool := isServing s.node.state && (axleOf s).isSome && mateSteerLost s

/-- The presented target and STEER_CENTERED as read now (R122). -/
def presentTarget (s : State) : State :=
  s.setSteer { s.steer with centered := centring s
                            presented := if centring s then 0 else s.steer.geometry.target }

/-- The steering unit takes an offered command (R107). -/
def offerCommand (s : State) : State :=
  let r := s.intake.record
  let modes := settleModes s.steer.mode r.steerMode r.steer
  let indicator := indicatorOf r.steer
  let plain : Geometry := { mode := modes.1, straight := true, target := 0, side := .none, q := 1000, indicator }
  let geometry := match s.node.image, s.node.position with
    | some i, some p => if isCorner p then geometryOf i.fields p modes.1 r.steer indicator else plain
    | _, _ => plain
  presentTarget (s.setSteer { s.steer with mode := modes.1, pendingMode := modes.2, geometry })

end Sys2Proof.Machine
end

