-- ==== Sys2Proof/Machine/Line.lean ====
section
/-! DEFINITION. The meanings of the bus port's commands: the receiver (R6 to R10, R20) and the transmitter (R15 to R19),
and the power-on reset (R39). -/

namespace Sys2Proof.Machine

/-! ## Power-on reset -/

/-- POWER_ON_RESET (R39): every block takes its reset state; the serial is fixed in the part, the levels at the pins, the
clock and the queue of commands are no state of the part's blocks. -/
def execPowerOnReset (s : State) : Answer :=
  .next { State.reset with now := s.now, pins := s.pins, node := { Node.reset with serial := s.node.serial }
                           pending := s.pending }

/-! ## The receiver -/

/-- Change the receiver. -/
def setRx (x : Receiver) (s : State) : State := s.setBus { s.bus with rx := x }

/-- BUS_IDLE (R6, R7): the run stands at 12; a receiver in HUNT moves to READY. -/
def execBusIdle (s : State) : Answer :=
  let rx := s.bus.rx
  .next (setRx { rx with recessiveRun := 12, dominantRun := 0, ownBreak := false
                         state := if rx.state = .hunt then .ready else rx.state } s)

/-- FRAME_START (R7): a dominant bit time in READY is the header's start bit; in HUNT it only resets the run. -/
def execFrameStart (s : State) : Answer :=
  let rx := s.bus.rx
  let rx1 := { rx with recessiveRun := 0, dominantRun := 1 }
  .next (setRx (if rx.state = .ready then
    { rx1 with state := .frame, exempt := false, echo := false, ownBreak := false } else rx1) s)

/-- Count a failed check, unless the reception is exempt (R8). -/
def countUnless (exempt : Bool) (count : State → State) (s : State) : State := if exempt then s else count s

/-- A frame joins the queue, or is dropped and counted when 8 are held (R10). -/
def enqueue (f : RxFrame) (s : State) : State :=
  if s.bus.queue.length < 8 then s.setBus { s.bus with queue := s.bus.queue ++ [f] } else countOverrun s

/-- The disposal of a valid frame, by the first case that matches (R9). -/
def disposeFrame (echo : Bool) (kind : FrameKind) (sender : Nat) (payload : List Byte) (s : State) : State :=
  if s.node.state = .strap then s
  else if echo then s
  else if kind = .answer then s
  else enqueue { kind, sender, payload, own := stationOf s = some sender } s

/-- FRAME_RECEIVED (R7 to R10): the receiver goes to READY and the frame is checked, then disposed of. The reception is this
node's own echo when an attempt completed over it, or is completing with it (log 10). -/
def execFrameReceived (bytes : List Byte) (s : State) : Answer :=
  let rx := s.bus.rx
  if rx.state = .frame then
    let s1 := setRx { rx with state := .ready, recessiveRun := 2, dominantRun := 0, exempt := false, echo := false } s
    let echo := rx.echo || s.bus.tx.attempt.isSome
    match judgeFrame bytes with
    | .formatError => .next (countUnless rx.exempt countFormat s1)
    | .crcError => .next (countUnless rx.exempt countCrc s1)
    | .valid kind sender payload => .next (disposeFrame echo kind sender payload s1)
  else .next s

/-- The counter of a failing row of Table 1-3. -/
def countFailure (how : RxFail) (s : State) : State :=
  match how with
  | .startHeaderOrLength => countFraming s
  | .startPayloadOrCrc => countFormat s
  | .headerStopBit => countFraming s
  | .stopBit => countFraming s
  | .lengthAbove12 => countFormat s
  | .endBit => countFraming s

/-- Whether the failing bit reads dominant (Table 1-3); the other rows fail on a recessive bit. -/
def failsDominant (how : RxFail) : Bool :=
  match how with
  | .headerStopBit => true
  | .stopBit => true
  | .endBit => true
  | .startHeaderOrLength => false
  | .startPayloadOrCrc => false
  | .lengthAbove12 => false

/-- The recessive run at a failure (R6): a start bit read recessive follows the recessive stop bit before it; a length byte
above 12 fails at its recessive stop bit (log 8). -/
def recessiveAfter (how : RxFail) : Nat :=
  match how with
  | .startHeaderOrLength => 2
  | .startPayloadOrCrc => 2
  | .lengthAbove12 => 1
  | .headerStopBit => 0
  | .stopBit => 0
  | .endBit => 0

/-- The failing bit aborts an attempt that is still on the line: past the header the mismatch is a collision (R17). At the
header's stop bit, sent recessive, it is lost arbitration, which aborts nothing (R16, log 9). -/
def failAborts (how : RxFail) : Bool :=
  match how with
  | .headerStopBit => false
  | .startHeaderOrLength => true
  | .startPayloadOrCrc => true
  | .stopBit => true
  | .lengthAbove12 => true
  | .endBit => true

/-- The reception is exempt from counting: an attempt was aborted during it, or is aborted by the failing bit, its own row
coming in the same bit time (R8, log 9). -/
def exemptNow (how : RxFail) (s : State) : Bool := s.bus.rx.exempt || (s.bus.tx.attempt.isSome && failAborts how)

/-- RECEPTION_FAILED (R7, R8): the partial frame is discarded, counted unless exempt, and the receiver enters HUNT. -/
def execReceptionFailed (how : RxFail) (s : State) : Answer :=
  let rx := s.bus.rx
  if rx.state = .frame then
    let s1 := countUnless (exemptNow how s) (countFailure how) s
    .next (setRx { rx with state := .hunt, recessiveRun := recessiveAfter how
                           dominantRun := if failsDominant how then 1 else 0, exempt := false, echo := false } s1)
  else .next s

/-- BREAK_RECOGNISED (R20, R104): the receiver enters HUNT; a run that holds none of this node's own break is a break
heard. -/
def execBreakRecognised (s : State) : Answer :=
  let rx := s.bus.rx
  let s1 := setRx { rx with state := .hunt, recessiveRun := 0, dominantRun := 20, exempt := false, echo := false
                            ownBreak := false } s
  if rx.ownBreak || s.bus.tx.breakLeft.isSome then .next s1 else done (enterCutoff .breakHeard s1)

/-! ## The transmitter -/

/-- Change the transmitter. -/
def setTx (x : Transmitter) (s : State) : State := s.setBus { s.bus with tx := x }

/-- A held frame is eligible unless its backoff runs (R15). -/
def slotEligible (sl : Slot) : Bool :=
  match sl.held with
  | none => false
  | some h => h.backoff.isNone

/-- The eligible slot of the lowest kind code (R15). -/
def nextEligible (x : Slots) : Option TxKind :=
  if slotEligible x.winch then some .winch
  else if slotEligible x.report then some .report
  else if slotEligible x.beat then some .beat
  else if slotEligible x.answer then some .answer
  else none

/-- The transmitter may start an attempt: bus idle, no break, none under way, the silence timer not running, and 100 ms
spacing under BUS_FAULT (R15, R18, R26). -/
def mayStart (s : State) : Bool :=
  s.bus.rx.recessiveRun = 12 && s.bus.tx.breakLeft.isNone && s.bus.tx.attempt.isNone
    && s.node.silenceTimer.isNone && (!s.bus.busFault || 100 ≤ s.bus.tx.sinceAttempt)

/-- The frame that an attempt of a slot would send. -/
def heldFrame (s : State) (k : TxKind) : Option TxFrame := (s.bus.slots.get k).held.map Held.frame

/-- ATTEMPT_START (R15, R3): the lowest eligible kind goes on the line. -/
def execAttemptStart (s : State) : Answer :=
  if mayStart s then
    match nextEligible s.bus.slots with
    | none => .next s
    | some k =>
      match heldFrame s k with
      | none => .next s
      | some f =>
        let line := frameLine (frameBytes (txFrameKind k) f.sender f.payload)
        .next (setTx { s.bus.tx with attempt := some { kind := k, line }, sinceAttempt := 0 } s)
  else .next s

/-- The attempt ends. -/
def clearAttempt (s : State) : State := setTx { s.bus.tx with attempt := none } s

/-- An attempt ends in its header; a replaced ANSWER is counted (R16). -/
def loseAttempt (k : TxKind) (s : State) : State :=
  let r := (s.bus.slots.get k).lose
  let s1 := setSlot k r.1 (clearAttempt s)
  if r.2 && k = .answer then countAnswerDrop s1 else s1

/-- A reception during which an attempt was aborted is exempt from counting (R8). -/
def markExempt (s : State) : State :=
  setRx { s.bus.rx with exempt := s.bus.rx.exempt || s.bus.rx.state = .frame } s

/-- ARBITRATION_LOST (R16). -/
def execArbitrationLost (s : State) : Answer :=
  match lineKind s with
  | none => .next s
  | some k => .next (loseAttempt k s)

/-- The line-fault run rises to 16, where BUS_FAULT is set (R18). -/
def raiseLineFault (s : State) : State :=
  let run := bumpTo 16 s.bus.lineFaultRun
  s.setBus { s.bus with lineFaultRun := run, busFault := s.bus.busFault || run = 16 }

/-- LINE_FAULT (R16, R18). -/
def execLineFault (s : State) : Answer :=
  match lineKind s with
  | none => .next s
  | some k => .next (markExempt (raiseLineFault (countLineFault (loseAttempt k s))))

/-- COLLISION (R17). -/
def execCollision (s : State) : Answer :=
  match lineKind s with
  | none => .next s
  | some k =>
    let r := (s.bus.slots.get k).collide s.node.serial
    let s1 := countCollision (setSlot k r.1 (clearAttempt s))
    .next (markExempt (if r.2 then countTxDrop s1 else s1))

/-- A held frame whose backoff has ended. -/
def Slot.expire (sl : Slot) : Slot :=
  { sl with held := sl.held.map fun h => { h with backoff := none } }

/-- BACKOFF_EXPIRY (R17): the frame is eligible again. -/
def execBackoffExpiry (k : TxKind) (s : State) : Answer :=
  .next (setSlot k (s.bus.slots.get k).expire s)

/-- A beat-0 restart of the super-cycle is the light sequencer's (R172); see `execAttemptComplete`. The bus port's part of a
completed attempt (R18). -/
def completeAttempt (s : State) : State :=
  let s1 := finishAttempt s
  let s2 := s1.setBus { s1.bus with lineFaultRun := 0, busFault := false }
  setRx { s2.bus.rx with echo := s2.bus.rx.echo || s2.bus.rx.state = .frame } s2

/-- BREAK_END (R19): the line is released. -/
def execBreakEnd (s : State) : Answer := .next (setTx { s.bus.tx with breakLeft := none } s)

end Sys2Proof.Machine
end

