-- ==== Sys2Proof/Machine/LightsUnit.lean ====
section
/-! DEFINITION. The meanings of the light sequencer's commands (spec 09), and the completed attempt, which restarts the
super-cycle when it sent the node's own BEAT (R18, R172). -/

namespace Sys2Proof.Machine

/-! ## The override order (Table 9-5) -/

/-- Row 4: FAILSAFE (R177). -/
def failsafeRow (s : State) (f : LampFunction) : Option Display :=
  if s.node.state = .failsafe then
    match f with
    | .indicator => some (.show .hazard 255)
    | .marker => if s.intake.stage = .two then some (.show .failsafe 255) else none
    | .aux => if s.intake.stage = .two then some .off else none
    | .off => none
    | .head => none
    | .tailbrake => none
    | .reverse => none
  else none

/-- Row 5: the hazard switch of the presented record (R177). -/
def hazardRow (s : State) (f : LampFunction) : Option Display :=
  if f = .indicator ∧ (presented s).hazard = true then some (.show .hazard 255) else none

/-- Row 6: the effective level (R178). -/
def levelRow (s : State) (f : LampFunction) : Option Display :=
  let l := effectiveLevel s
  if f = .marker ∧ (l = .derate ∨ l = .limp) then some (.show .lowbat 255)
  else if f = .aux ∧ l = .limp then some .off
  else none

/-- Row 7: the function behaviour (R179, R180). -/
def functionRow (s : State) (f : LampFunction) : Option Display :=
  let mode := (presented s).lights
  let marker := (fieldsOf s).lights.markerLevel
  let side := s.node.position.map sideOf
  match f with
  | .off => none
  | .head => if mode = .drive ∨ mode = .full then some (.show .steady 255) else none
  | .marker => if mode ≠ .off then some (.show .steady marker) else none
  | .tailbrake =>
    if 0 < s.lights.brakeHold then some (.show .steady 255)
    else if mode ≠ .off then some (.show .steady marker) else none
  | .indicator =>
    if s.steer.geometry.indicator ≠ .none ∧ side = some s.steer.geometry.indicator then some (.show .indicate 255)
    else none
  | .reverse => if s.drive.reversing then some (.show .steady 255) else none
  | .aux => if mode = .full then some (.show .steady 255) else none

/-- Row 8: READY in SAFE (R181). -/
def readyRow (s : State) (f : LampFunction) : Option Display :=
  if s.node.state = .safe ∧ f = .marker then some (.show .ready (fieldsOf s).lights.markerLevel) else none

/-- Rows 4 to 8 in SAFE, RUN and FAILSAFE; nothing given is off. -/
def servingDisplay (s : State) (f : LampFunction) : Display :=
  ((failsafeRow s f).or ((hazardRow s f).or ((levelRow s f).or ((functionRow s f).or (readyRow s f))))).getD .off

/-- The wanted display of a channel (Table 9-5, R176). -/
def wantedDisplay (s : State) (l : Lamp) : Display :=
  match functionOf s l with
  | none => if s.node.state = .conflict then .show .conflict 255 else .off
  | some f =>
    if f = .off then .off
    else match s.node.state with
      | .strap => .off
      | .listen => .off
      | .check => .off
      | .cutoff => if f = .marker ∨ f = .tailbrake then .show .cutoff 64 else .off
      | .conflict => if f = .marker then .show .conflict 255 else .off
      | .safe => servingDisplay s f
      | .run => servingDisplay s f
      | .failsafe => servingDisplay s f

/-! ## Patterns and steps -/

/-- The current and pending patterns under a wanted display (R175). -/
def Channel.want (c : Channel) (w : Display) : Channel :=
  if stepsKey w = stepsKey c.current then { c with current := w, pending := none }
  else if isBlinking w then { c with pending := some w }
  else { c with current := w, pending := none }

/-- A pending pattern becomes current at a super-cycle start (R175). -/
def Channel.promote (c : Channel) : Channel :=
  match c.pending with
  | none => c
  | some d => { c with current := d, pending := none }

/-- A lit step dimmed by its class's grant (R182). -/
def dimmed (s : State) (l : Lamp) (level : Nat) : Nat :=
  if isServing s.node.state then
    let required := isRequired (functionOf s l)
    let grant := if required then s.power.grants.required else s.power.grants.aux
    let demand := if required then s.power.demands.required else s.power.demands.aux
    if demand ≤ grant then level else level * grant / demand
  else level

/-- The step of a channel at a beat and epoch, dimmed. -/
def stageLevel (s : State) (l : Lamp) (c : Channel) (beat epoch : Nat) : Nat :=
  dimmed s l (stepOf c.current beat epoch)

/-- The brake hold at a beat event (R180). -/
def brakeHoldNext (s : State) : Nat :=
  if isServing s.node.state then
    if s.drive.braking || peerBraking s.peers then 20 else s.lights.brakeHold - 1
  else 0

/-- Change every channel by a function of its lamp. -/
def mapChannels (f : Lamp → Channel → Channel) (s : State) : State :=
  s.setLights { s.lights with channels := Quad.ofLamp fun l => f l (s.lights.channels.get l) }

/-- Read the inputs and update the patterns (R174 steps 2 and 3). -/
def resolveChannels (s : State) : State :=
  let s1 := s.setLights { s.lights with brakeHold := brakeHoldNext s }
  mapChannels (fun l c => c.want (wantedDisplay s1 l)) s1

/-- The beat after one. -/
def nextBeat (beat : Nat) : Nat := if 31 ≤ beat then 0 else beat + 1

/-- The epoch of the next beat. -/
def nextEpoch (beat epoch : Nat) : Nat := if 31 ≤ beat then (epoch + 1) % 256 else epoch

/-- Stage the steps for the next beat; before beat 0 a pending pattern becomes current (R174 step 4). -/
def stageChannels (s : State) : State :=
  let beat := nextBeat s.lights.beat
  let epoch := nextEpoch s.lights.beat s.lights.epoch
  mapChannels (fun l c =>
    let c1 := if beat = 0 then c.promote else c
    { c1 with staged := stageLevel s l c1 beat epoch }) s

/-- The states in which a wrap places a BEAT (R170). -/
def placesBeat : NodeState → Bool
  | .safe => true
  | .run => true
  | .failsafe => true
  | .cutoff => true
  | .strap => false
  | .listen => false
  | .check => false
  | .conflict => false

/-- The wrap of the super-cycle (R169, R170). -/
def wrapCycle (s : State) : State :=
  let epoch := (s.lights.epoch + 1) % 256
  let s1 := s.setLights { s.lights with beat := 0, epoch, heard := false }
  if placesBeat s.node.state && !s.lights.heard then placeFrame .beat [byteOf epoch] s1 else s1

/-- A pattern still pending at the wrap, which CUTOFF entry left after the last staging, becomes current there and shows its
beat 0 (R175, R176), unless a short has withdrawn the channel since (R183). -/
def promoteAtWrap (s : State) : State :=
  mapChannels (fun l c =>
    if c.pending.isSome && functionOf s l ≠ some .off then
      { c.promote with active := stageLevel s l c.promote 0 s.lights.epoch }
    else c) s

/-- A beat event of the timer (R169, R174). -/
def beatStep (s : State) : State :=
  let s1 := mapChannels (fun _ c => { c with active := c.staged }) s
  let s2 := if 31 ≤ s1.lights.beat then promoteAtWrap (wrapCycle s1)
    else s1.setLights { s1.lights with beat := s1.lights.beat + 1 }
  stageChannels (resolveChannels (s2.setLights { s2.lights with beatTimer := some 0 }))

/-- A restart of the super-cycle (R171, R172, R174): the steps of beat 0 apply at once (log 22). -/
def restartCycle (s : State) : State :=
  let s1 := resolveChannels (s.setLights { s.lights with beat := 0, beatTimer := some 0 })
  let s2 := mapChannels (fun l c =>
    let c1 := c.promote
    { c1 with active := stageLevel s1 l c1 0 s1.lights.epoch }) s1
  stageChannels s2

/-! ## Commands -/

/-- BEAT_EVENT (R169, R174). -/
def execBeatEvent (s : State) : Answer := .next (if s.lights.beatTimer.isSome then beatStep s else s)

/-- BEAT_TAKEN (R171): the oldest frame is a BEAT from another station. -/
def execBeatTaken (s : State) : Answer :=
  match headOfKind .beat s with
  | none => .next s
  | some f =>
    match readBeat f.payload with
    | none => .next (popQueue s)
    | some epoch =>
      let s1 := withdrawFrame .beat (popQueue s)
      .next (restartCycle (s1.setLights { s1.lights with epoch, heard := true }))

/-- ATTEMPT_COMPLETE (R18); the node's own BEAT restarts the super-cycle (R172). -/
def execAttemptComplete (s : State) : Answer :=
  match lineKind s with
  | none => .next s
  | some k => .next (if k = .beat then restartCycle (completeAttempt s) else completeAttempt s)

/-- The output monitor's test of a channel at step 8 is under way (R190). -/
def testsLamp (l : Lamp) (s : State) : Bool :=
  s.monitor.position = some (.lampPresence l) || s.monitor.position = some (.lampRating l)

/-- LAMP_SHORT (R183): more than 30 dA sensed while the channel's switch was on, which the row says and a beat event since
may have changed (log 2). In STRAP, in a withdrawn channel and in the channel's own CHECK test no short is on line. -/
def execLampShort (l : Lamp) (current : Nat) (s : State) : Answer :=
  if 30 < current ∧ s.node.state ≠ .strap ∧ s.monitor.withdrawn.lamps.get l = false ∧ testsLamp l s = false then
    done (withdrawLamp l current s)
  else .next s

end Sys2Proof.Machine
end

