-- ==== Sys2Proof/Machine/NodeCtl.lean ====
section
/-! DEFINITION. The meanings of the node controller's commands (spec 02; 03, 3.2): strap, LISTEN timers, CONFIG, ASSIGN,
conflicts, uptime and REPORT timing. -/

namespace Sys2Proof.Machine

/-- STRAP_READ_SUCCESS (R23, R25): the node takes the position and enters LISTEN. -/
def execStrapReadSuccess (p : Position) (s : State) : Answer :=
  if s.node.state = .strap then
    .next (enterListen (s.setNode { s.node with position := some p
                                                strap := { failed := 0, band := none, count := 0, last := some p } }))
  else .next s

/-- The strap code read: the band of the last sample in any band, or 0 (R23). -/
def strapCodeOf (last : Option Position) : Nat := (last.map posCode).getD 0

/-- STRAP_READ_FAIL (R23, R31): after the 20th failed attempt the node enters CONFLICT with cause STRAP. -/
def execStrapReadFail (last : Option Position) (s : State) : Answer :=
  if s.node.state = .strap then
    .next (enterConflict .strap (strapCodeOf last)
      (s.setNode { s.node with strap := { failed := 20, band := none, count := 0, last } }))
  else .next s

/-- SILENCE_TIMER_EXPIRY (R26, R42): the first REPORT is placed; with an image in force the node leaves for CHECK. -/
def execSilenceTimerExpiry (s : State) : Answer :=
  if s.node.state = .listen ∧ s.node.silenceTimer.isSome then
    let s1 := placeReport (s.setNode { s.node with silenceTimer := none })
    done (if s1.node.image.isSome then enterCheck s1 else s1)
  else .next s

/-- DEFAULT_TIMER_EXPIRY (R26, R37): with no image in force the default image comes into force and the node enters
CHECK. -/
def execDefaultTimerExpiry (s : State) : Answer :=
  if s.node.state = .listen ∧ s.node.defaultTimer.isSome then
    if s.node.image.isSome then .next (s.setNode { s.node with defaultTimer := none })
    else
      let s1 := applyImage defaultImage s
      done (enterCheck (s1.setNode { s1.node with defaultConfig := true }))
  else .next s

/-- The staging image holds all eight indices: it is checked and comes into force, or is emptied and counted (R35); with the
silence timer ended the node leaves for CHECK (R26). -/
def completeImage (s : State) : State :=
  let bytes := stagedBytes s.node.staging
  if imageAccepted bytes then
    let s1 := applyImage (receivedImage bytes) s
    if s1.node.silenceTimer.isNone then enterCheck s1 else s1
  else countCfgIgnored (s.setNode { s.node with staging := [] })

/-- A segment taken in the intake (R34, R35). -/
def stageSegment (index : Nat) (bytes : List Byte) (s : State) : State :=
  let staging := stagePut index bytes s.node.staging
  let s1 := s.setNode { s.node with staging }
  if stagingComplete staging then completeImage s1 else s1

/-- The CONFIG intake (R34). -/
def takeConfig (payload : List Byte) (s : State) : State :=
  if s.node.state = .listen ∧ s.node.image = none then
    match payload with
    | [] => countCfgIgnored s
    | i :: bytes =>
      if i.toNat ≤ 7 ∧ bytes.length = segmentLength i.toNat then stageSegment i.toNat bytes s else countCfgIgnored s
  else countCfgIgnored s

/-- CONFIG (R34 to R36). -/
def execConfig (s : State) : Answer :=
  match headOfKind .config s with
  | none => .next s
  | some f => done (takeConfig f.payload (popQueue s))

/-- The peer table holds a FRESH entry for a station (R33). -/
def freshAt (p : Peers) (station : Nat) : Bool := (freshPeers p).any fun e => e.station = station

/-- An accepted ASSIGN: position, image and conflict data, then as RESTART, then LISTEN (R33). -/
def acceptAssign (p : Position) (s : State) : State :=
  enterListen (restartBlocks (s.setNode { s.node with position := some p, conflict := none, image := none }))

/-- A refused ASSIGN: the refused flag and a notice at once (R33). -/
def refuseAssign (s : State) : State :=
  placeNotice (s.setNode { s.node with conflict := s.node.conflict.map fun c => { c with refused := true } })

/-- The judgement of an ASSIGN (R33). -/
def takeAssign (serial : BitVec 24) (position : Nat) (s : State) : State :=
  if s.node.state = .conflict ∧ serial = s.node.serial then
    match posOfCode position with
    | none => refuseAssign s
    | some p => if freshAt s.peers position then refuseAssign s else acceptAssign p s
  else s.setNode { s.node with assignIgnored := bumpTo 255 s.node.assignIgnored }

/-- ASSIGN (R33). -/
def execAssign (s : State) : Answer :=
  match headOfKind .assign s with
  | none => .next s
  | some f =>
    match readAssign f.payload with
    | none => .next (popQueue s)
    | some (serial, position) => .next (takeAssign serial position (popQueue s))

/-- The states in which an own-station frame is a conflict (R30). -/
def judgesOwn : NodeState → Bool
  | .listen => true
  | .check => true
  | .safe => true
  | .run => true
  | .failsafe => true
  | .strap => false
  | .cutoff => false
  | .conflict => false

/-- OWN_STATION_FRAME (R30, R31). -/
def execOwnStationFrame (s : State) : Answer :=
  match headOwn s with
  | none => .next s
  | some f =>
    let s1 := popQueue s
    .next (if judgesOwn s.node.state && stationOf s = some f.sender then enterConflict .duplicate f.sender s1 else s1)

/-- CONFLICT_NOTICE_TIMER (R32). -/
def execConflictNoticeTimer (s : State) : Answer :=
  .next (if s.node.state = .conflict ∧ s.node.noticeTimer.isSome then placeNotice s else s)

/-- UPTIME_TICK (R39). -/
def execUptimeTick (s : State) : Answer :=
  .next (s.setNode { s.node with uptime := bumpTo 16777215 s.node.uptime, uptimeTimer := 0 })

/-- REPORT_TIMER_EXPIRY (R42, R43): a held-event mark is cleared by the placement. -/
def execReportTimerExpiry (s : State) : Answer :=
  .next (if reportsNow s && s.node.reportTimer.isSome then placeReport s else s)

/-- HELD_EVENT_SPACING_EXPIRY (R43). -/
def execHeldEventSpacingExpiry (s : State) : Answer :=
  .next (if reportsNow s && s.node.heldEvent then placeReport s else s)

end Sys2Proof.Machine
end

