-- ==== Sys2Proof/Machine/PeerMonitor.lean ====
section
/-! DEFINITION. The meanings of the peer monitor's commands (spec 03, 3.3 and 3.4). -/

namespace Sys2Proof.Machine

/-- Create or renew an entry, in ascending station order (R45 cases 3 and 4). -/
def putPeer (e : PeerEntry) : List PeerEntry → List PeerEntry
  | [] => [e]
  | x :: rest =>
    if e.station < x.station then e :: x :: rest
    else if e.station = x.station then e :: rest
    else x :: putPeer e rest

/-- What the peer monitor does with a REPORT (R45, R203). -/
def takeReport (f : RxFrame) (s : State) : State :=
  match stationOf s, readReport f.sender f.payload with
  | some _, some (.ordinary e) => s.setPeers { s.peers with table := putPeer e s.peers.table }
  | _, _ => s

/-- REPORT (R45): the peer monitor takes the frame, and the node controller's copy is discarded in the same step (R30,
log 30). -/
def execReport (s : State) : Answer :=
  match headOfKind .report s with
  | none => .next s
  | some f => .next (takeReport f (popQueue s))

/-- PEER_LOST (R47): a LOST entry is removed and its current joins the lapse reserve, at most 1000 dA; a REPORT taken first
has made the entry FRESH and leaves none (R46). -/
def execPeerLost (station : Nat) (s : State) : Answer :=
  match s.peers.table.find? fun e => e.station = station && freshnessOf e.age = .lost with
  | none => .next s
  | some e =>
    .next (s.setPeers { s.peers with table := s.peers.table.filter fun x => x.station ≠ station
                                     reserve := min 1000 (s.peers.reserve + e.current) })

/-- What the peer monitor does with a WINCH frame (R50, R203): only a CONFLICT without station number discards it. -/
def takeWinch (f : RxFrame) (s : State) : State :=
  if s.node.state = .conflict ∧ stationOf s = none then s
  else match readWinch f.payload with
    | none => s
    | some (lineSpeed, assist) => s.setPeers { s.peers with link := some { lineSpeed, assist, age := 0 } }

/-- WINCH (R50). -/
def execWinch (s : State) : Answer :=
  match headOfKind .winch s with
  | none => .next s
  | some f => .next (takeWinch f (popQueue s))

/-- The winch link record is valid: its age is 60 ms or less (R50). -/
def linkValid (l : WinchLink) : Bool := l.age ≤ 60

/-- WINCH_LINK_EXPIRY (R50): a record of 61 ms or more is discarded; a WINCH frame taken first has renewed it. -/
def execWinchLinkExpiry (s : State) : Answer := .next (s.setPeers { s.peers with link := s.peers.link.filter linkValid })

end Sys2Proof.Machine
end

