-- ==== Sys2Proof/Machine/Queries.lean ====
section
/-! DEFINITION. The meanings of the queries (spec 03, 3.6; R38). -/

namespace Sys2Proof.Machine

/-- A QUERY as read: its asker, its code byte and its argument. -/
structure QueryRead where
  asker : Nat
  code : Nat
  arg : Nat
  deriving DecidableEq, Repr

/-- The oldest frame is a QUERY, read by its layout; the flag says that this node answers it: it is addressed to the node,
which is not in CONFLICT (R55). -/
def headQuery (s : State) : Option (QueryRead × Bool) :=
  match headOfKind .query s with
  | none => none
  | some f =>
    match readQuery f.payload with
    | none => none
    | some (target, code, arg) =>
      some ({ asker := f.sender, code, arg },
        stationOf s = some target && s.node.state ≠ .conflict && s.node.state ≠ .strap)

/-- Take the oldest frame when it is a QUERY of a code; answer it when it is for this node (R55). -/
def onQuery (code : QueryCode) (act : QueryRead → State → State) (s : State) : Answer :=
  match headQuery s with
  | none => .next s
  | some (q, mine) =>
    if queryOfCode q.code = some code then done (if mine then act q (popQueue s) else popQueue s) else .next s

/-- An OK answer with data. -/
def answerOk (data : State → List Byte) (q : QueryRead) (s : State) : State :=
  placeAnswer q.asker q.code .ok (data s) s

/-- CHECK_RECORD (R56). -/
def execCheckRecord (s : State) : Answer :=
  onQuery .checkRecord (answerOk fun s => checkRecordData s.monitor.record) s

/-- The answer to an indexed query over a list, newest first (R56, R57). -/
def answerIndexed {α : Type} (top : Nat) (l : List α) (data : α → List Byte) (q : QueryRead) (s : State) : State :=
  if top < q.arg then placeAnswer q.asker q.code .badIndex [] s
  else match l[q.arg]? with
    | none => placeAnswer q.asker q.code .ok [] s
    | some r => placeAnswer q.asker q.code .ok (data r) s

/-- FAULT (R56). -/
def execFault (s : State) : Answer :=
  onQuery .fault (fun q s => answerIndexed 7 s.monitor.faults faultData q s) s

/-- WINCH_LOG (R57). -/
def execWinchLog (s : State) : Answer :=
  onQuery .winchLog (fun q s =>
    if roleOf s = .winch then answerIndexed 3 s.winch.log logData q s
    else placeAnswer q.asker q.code .unknown [] s) s

/-- COUNTERS (R58). -/
def execCounters (s : State) : Answer := onQuery .counters (answerOk fun s => countersData s.bus.counters) s

/-- IMAGE (R58). -/
def execImage (s : State) : Answer := onQuery .image (answerOk imageData) s

/-- BUDGET (R59). -/
def execBudget (s : State) : Answer := onQuery .budget (answerOk budgetData) s

/-- An accepted RESTART: outputs safe, the blocks reset, the ANSWER placed, LISTEN entered (R38). -/
def restartNode (q : QueryRead) (s : State) : State :=
  enterListen (placeAnswer q.asker q.code .ok [] (restartBlocks (goSafe .fault (abandonCheck s))))

/-- RESTART (R38, R60): refused in CUTOFF. -/
def execRestart (s : State) : Answer :=
  onQuery .restart (fun q s =>
    if s.node.state = .cutoff then placeAnswer q.asker q.code .refusedState [] s else restartNode q s) s

/-- RECHECK (R60): accepted in SAFE alone. -/
def execRecheck (s : State) : Answer :=
  onQuery .recheck (fun q s =>
    if s.node.state = .safe then enterCheck (placeAnswer q.asker q.code .ok [] s)
    else placeAnswer q.asker q.code .refusedState [] s) s

/-- QUERY_UNKNOWN_CODE (R55): every QUERY that is none of the known codes; one that does not fit its layout is discarded
(R203, log 27). -/
def execQueryUnknownCode (s : State) : Answer :=
  match headOfKind .query s with
  | none => .next s
  | some _ =>
    match headQuery s with
    | none => .next (popQueue s)
    | some (q, mine) =>
      if (queryOfCode q.code).isSome then .next s
      else .next (if mine then placeAnswer q.asker q.code .unknown [] (popQueue s) else popQueue s)

end Sys2Proof.Machine
end

