-- ==== Sys2Proof/Machine/IntakeUnit.lean ====
section
/-! DEFINITION. The meanings of the command intake's commands (spec 04). -/

namespace Sys2Proof.Machine

/-- The record a new command leaves: values clamped, a mode code outside its values keeps the mode held (R62). -/
def takenRecord (held : CommandRecord) (c : CommandFrame) : CommandRecord :=
  { throttle := clampInt (-1000) 1000 c.throttle, steer := clampInt (-1000) 1000 c.steer
    lever := clampInt (-1000) 1000 c.lever, steerMode := c.steerMode.getD held.steerMode
    lights := c.lights.getD held.lights, hazard := c.hazard, assist := c.assist, freespool := c.freespool }

/-- The link is refreshed and the intake bound to the sender (R63, R67). -/
def refreshLink (sender : Nat) (s : State) : State :=
  s.setIntake { s.intake with bound := some sender, linkAge := some 0 }

/-- The judgement of a taken command (R29, R65, R72). -/
def judgeCommand (s : State) : State :=
  let neutral := isNeutral (fieldsOf s).drive.throttleDeadband s.intake.record
  match s.node.state with
  | .safe =>
    if neutral then
      if effectiveLevel s = .cutoff then offerCommand s else offerCommand (enterRun s)
    else offerCommand (s.setNode { s.node with armWait := true })
  | .run => offerCommand s
  | .failsafe => if neutral then offerCommand (enterRun s) else s
  | .strap => s
  | .listen => s
  | .check => s
  | .cutoff => s
  | .conflict => s

/-- A new command is taken (R65). -/
def takeCommand (sender : Nat) (c : CommandFrame) (s : State) : State :=
  let s1 := refreshLink sender s
  judgeCommand (s1.setIntake { s1.intake with record := takenRecord s1.intake.record c
                                              marker := some (sender, c.sequence) })

/-- A COMMAND that reaches the intake (R61, R63, R64, R203). -/
def dealCommand (sender : Nat) (payload : List Byte) (s : State) : State :=
  if isServing s.node.state = false ∨ (s.intake.bound ≠ none ∧ s.intake.bound ≠ some sender) then s
  else match readCommand payload with
    | none => s
    | some c => if s.intake.marker = some (sender, c.sequence) then refreshLink sender s else takeCommand sender c s

/-- COMMAND (R61). -/
def execCommand (s : State) : Answer :=
  match headOfKind .command s with
  | none => .next s
  | some f => done (dealCommand f.sender f.payload (popQueue s))

/-- The link age has reached a limit (R67, R70); a COMMAND or a duplicate taken first has set it to 0 (R74). -/
def linkAgeReached (limit : Nat) (s : State) : Bool := s.intake.linkAge.any fun age => limit ≤ age

/-- LINK_EXPIRY (R67, R68, R74): the link age has reached failsafe_timeout while the intake is bound. The intake unbinds; in
SAFE the link age stops, in RUN the node enters FAILSAFE. -/
def execLinkExpiry (s : State) : Answer :=
  if s.intake.bound.isSome && linkAgeReached (fieldsOf s).drive.failsafeTimeout s then
    match s.node.state with
    | .safe => .next (s.setIntake { s.intake with bound := none, linkAge := none })
    | .run => done (enterFailsafe (s.setIntake { s.intake with bound := none }))
    | .failsafe => .next (s.setIntake { s.intake with bound := none })
    | .strap => .next s
    | .listen => .next s
    | .check => .next s
    | .cutoff => .next s
    | .conflict => .next s
  else .next s

/-- The link age of stage 2 (R70); the age stops at 10000 ms, the largest of these limits (R67). -/
def stage2Age (s : State) : Nat := min 10000 (10 * (fieldsOf s).drive.failsafeTimeout)

/-- FAILSAFE_STAGE_2 (R70, R74): bridge B goes OFF and the actuator loop is suspended; the lamps read the stage at their next
beat. -/
def execFailsafeStage2 (s : State) : Answer :=
  if s.node.state = .failsafe ∧ s.intake.stage = .one ∧ linkAgeReached (stage2Age s) s = true then
    .next (offBridgeB (s.setIntake { s.intake with stage := .two }))
  else .next s

end Sys2Proof.Machine
end

