-- ==== Sys2Proof/Machine/Supervisor.lean ====
section
/-! DEFINITION. The meanings of the power supervisor's commands (spec 05): the budget tick, stage by stage, and the PEER
test of a stopped supervisor. -/

namespace Sys2Proof.Machine

/-! ## Stage 0: readings and demands (R78, R79, R86, R97, R98) -/

/-- The readings set the pins they were taken at. -/
def presentReadings (r : BudgetReadings) (s : State) : State :=
  s.setPins { s.pins with vpack := r.vpack, isa := r.isa, isb := r.isb, lampAmps := r.lamps, cells := r.cells }

/-- The averaged currents, 0 to 1000 dA each (R78). -/
def readCurrents (r : BudgetReadings) : Currents :=
  { bridgeA := min 1000 r.isa, bridgeB := min 1000 r.isb, lamps := r.lamps.map (min 1000) }

/-- I_own (R78). -/
def sumCurrents (c : Currents) : Nat := min 1000 (c.bridgeA + c.bridgeB + c.lamps.sum)

/-- The demand of a bridge (R97). -/
def bridgeDemand (serves withdrawn limited used : Bool) (current : Nat) : Nat :=
  if !serves || withdrawn then 0
  else if limited then min 1000 (current + 10)
  else if used then min 1000 current
  else 0

/-- The bridge was in a mode other than OFF and BRAKE since the previous tick. -/
def bridgeUsed (b : Bridge) : Bool := b.used || drivesMode b.active.mode

/-- The demand of a lamp channel: rating × peak / 255, 0 while not rated (R98). -/
def lampDemand (s : State) (l : Lamp) : Nat :=
  match s.monitor.ratings.get l with
  | none => 0
  | some r => r * peakLevel s l / 255

/-- A lamp's demand counted in one class. -/
def classDemand (s : State) (required : Bool) (l : Lamp) : Nat :=
  if isRequired (functionOf s l) = required then lampDemand s l else 0

/-- The four consumer demands, each 0 to 1000 dA (R97, R98). -/
def consumerDemands (s : State) (c : Currents) : Consumers :=
  let corner := roleOf s = .corner
  let serves := corner || roleOf s = .winch
  let limitedA := if corner then s.drive.limited else s.winch.drumLimited
  let limitedB := if corner then s.steer.limited else s.winch.solenoidLimited
  { bridgeA := bridgeDemand serves s.monitor.withdrawn.bridgeA limitedA (bridgeUsed s.bridgeA) c.bridgeA
    bridgeB := bridgeDemand serves s.monitor.withdrawn.bridgeB limitedB (bridgeUsed s.bridgeB) c.bridgeB
    required := min 1000 (Quad.ofLamp (classDemand s true)).sum
    aux := min 1000 (Quad.ofLamp (classDemand s false)).sum }

/-- D_own (R98). -/
def sumDemands (d : Consumers) : Nat := min 1000 (d.bridgeB + d.required + d.bridgeA + d.aux)

/-- The cell record on the pack monitor (R86). -/
def readCells (s : State) (cells : Quad Nat) : Option CellRecord :=
  if s.node.packMonitor then
    let volts := cells.toList.take (fieldsOf s).vehicle.cellCount
    let lowest := volts.foldl min (volts.headD 0)
    let highest := volts.foldl max 0
    some { volts, lowest, highest, spread := highest - lowest }
  else none

/-- Stage 0 with G decayed at its start (R48). -/
def stageReadings (r : BudgetReadings) (s : State) : State :=
  let s1 := s.setPeers { s.peers with reserve := s.peers.reserve * 9 / 10 }
  let currents := readCurrents r
  let demands := consumerDemands s1 currents
  s1.setPower { s1.power with timer := 0, vNode := clampToNat 25500 r.vpack, currents, iOwn := sumCurrents currents
                              demands, lampDemands := Quad.ofLamp (lampDemand s1), dOwn := sumDemands demands
                              cells := readCells s1 r.cells }

/-! ## Stages 1 to 3 (R80 to R82) -/

/-- The drop in mV (R81). -/
def dropOf (iTotal rInt : Nat) : Nat := (iTotal * rInt + 5) / 10

/-- I_total, drop, V_rest and cell figure. -/
def stagePack (s : State) : State :=
  let f := fieldsOf s
  let iTotal := s.power.iOwn + peerCurrent s.peers + s.peers.reserve
  let drop := dropOf iTotal f.power.rInt
  let vRest := min 25500 (s.power.vNode + drop)
  s.setPower { s.power with iTotal, drop, vRest, cellFigure := vRest / f.vehicle.cellCount }

/-! ## Stage 4: the computed level (R83 to R88) -/

/-- A dwell counter: one more while its condition holds, up to its end, else 0. -/
def dwellStep (top : Nat) (meets : Bool) (n : Nat) : Nat := if meets then bumpTo top n else 0

/-- The lowest corrected cell lies below hard_min (R86, R87). -/
def cellTooLow (i : Image) (p : Power) : Bool :=
  match p.cells with
  | none => false
  | some c => c.lowest + p.drop / i.vehicle.cellCount < i.power.hardMin

/-- IMBALANCE after this tick (R88). -/
def imbalanceNow (i : Image) (p : Power) : Bool :=
  match p.cells with
  | none => false
  | some c => i.power.imbalanceLimit < c.spread

/-- The falling counters and the hard_min counter (R83, R87). -/
def fallingDwell (i : Image) (p : Power) : Dwell :=
  { p.dwell with
    derate := dwellStep 25 (p.cellFigure < i.power.derate) p.dwell.derate
    limp := dwellStep 25 (p.cellFigure < i.power.limp) p.dwell.limp
    cutoff := dwellStep 100 (p.cellFigure < i.power.cutoff) p.dwell.cutoff
    hardMin := dwellStep 10 (cellTooLow i p) p.dwell.hardMin }

/-- The level after the falling counters and IMBALANCE (R83, R87, R88). -/
def fallenLevel (d : Dwell) (imbalance : Bool) (l : Protection) : Protection :=
  if d.hardMin = 10 ∨ d.cutoff = 100 then .cutoff
  else if d.limp = 25 ∧ (l = .normal ∨ l = .derate) then .limp
  else if l = .normal ∧ (d.derate = 25 ∨ imbalance = true) then .derate
  else l

/-- The condition of the rise counter (R84). -/
def risesNow (i : Image) (p : Power) (imbalance : Bool) (l : Protection) : Bool :=
  match l with
  | .normal => false
  | .derate => i.power.derate + i.power.hysteresis ≤ p.cellFigure && !imbalance
  | .limp => i.power.limp + i.power.hysteresis ≤ p.cellFigure
  | .cutoff => false

/-- One level better, from LIMP and DERATE (R84). -/
def levelUp : Protection → Protection
  | .limp => .derate
  | .derate => .normal
  | .normal => .normal
  | .cutoff => .cutoff

/-- Stage 4: any change of the level sets the rise counter to 0 (R84). -/
def stageLevel4 (i : Image) (p : Power) : Power :=
  let d := fallingDwell i p
  let imbalance := imbalanceNow i p
  let l := fallenLevel d imbalance p.level
  if l ≠ p.level then { p with level := l, imbalance, dwell := { d with rise := 0 } }
  else if risesNow i p imbalance l then
    if 200 ≤ d.rise + 1 then { p with level := levelUp l, imbalance, dwell := { d with rise := 0 } }
    else { p with imbalance, dwell := { d with rise := d.rise + 1 } }
  else { p with imbalance, dwell := { d with rise := 0 } }

/-- The own cause that stage 4 finds; hard_min is taken first (R85, R87). -/
def ownCause (d : Dwell) : Option CutoffCause :=
  if d.hardMin = 10 then some .ownCell else if d.cutoff = 100 then some .ownPack else none

/-- Enter CUTOFF on a cause, if there is one. -/
def cutoffOn (cause : Option CutoffCause) (s : State) : State :=
  match cause with
  | none => s
  | some c => enterCutoff c s

/-- Stage 4 with its event and its causes, then the PEER cause of stage 5 (R85, R87, R90). The level-change event is raised
before the entry to CUTOFF; from CONFLICT or during the silence timer it is dropped there, and the fault record's event alone
gives the immediate REPORT (R43, R101, log 33). -/
def stageJudge (s : State) : State :=
  let p := stageLevel4 (fieldsOf s) s.power
  let s1 := s.setPower p
  let s2 := if p.level = s.power.level then s1 else raiseEvent .levelChange s1
  let s3 := cutoffOn (ownCause p.dwell) s2
  cutoffOn (if peerInCutoff s3.peers then some .peer else none) s3

/-! ## Stages 5 to 11 (R89 to R95, R99) -/

/-- The factor f (Table 5-5). -/
def levelFactor : Protection → Nat
  | .normal => 100
  | .derate => 70
  | .limp => 40
  | .cutoff => 0

/-- A (R91). -/
def availOf (p : ImagePower) (l : Protection) : Nat := (p.packLimit * levelFactor l + 50) / 100 - p.reserve

/-- The share of stage 8 (R93). -/
def shareOf (avail dOwn sumD expected : Nat) : Nat :=
  if sumD ≤ avail then dOwn + (avail - sumD) / expected else avail * dOwn / sumD

/-- The overdraw correction of stage 9 (R94). -/
def correctShare (share avail iTotal : Nat) : Nat := if avail < iTotal then share * avail / iTotal else share

/-- The bounds of stage 10 (R95). -/
def boundShare (l : Protection) (floor cap : Nat) (serving : Bool) (share : Nat) : Nat :=
  if l = .cutoff ∨ serving = false then 0 else min cap (max floor share)

/-- The level a tick records: the effective level as it stood at stage 0, or CUTOFF after an entry since (R89, log 31). -/
def recordedLevel (atStage0 : Protection) (s : State) : Protection :=
  if s.node.state = .cutoff then .cutoff else atStage0

/-- Stages 5 to 11, from the effective level of stage 0. -/
def stageShare (atStage0 : Protection) (s : State) : State :=
  let f := fieldsOf s
  let p := s.power
  let l := recordedLevel atStage0 s
  let avail := availOf f.power l
  let missing := f.vehicle.expectedNodes - 1 - peerCount s.peers
  let absentShare := avail / f.vehicle.expectedNodes
  let sumDemand := p.dOwn + peerDemand s.peers + missing * absentShare + s.peers.reserve
  let share := correctShare (shareOf avail p.dOwn sumDemand f.vehicle.expectedNodes) avail p.iTotal
  let allowance := boundShare l f.power.floor (allowanceCap s) (isServing s.node.state) share
  s.setPower { p with tickLevel := l, avail, missing, absentShare, sumDemand, overdraw := avail < p.iTotal, allowance
                      grants := divideGrants allowance p.demands }

/-- The whole tick. -/
def budgetTick (r : BudgetReadings) (s : State) : State :=
  clearMarks (stageShare (effectiveLevel s) (stageJudge (stagePack (stageReadings r s))))

/-- BUDGET_TICK (R77); a stopped supervisor runs no tick. -/
def execBudgetTick (r : BudgetReadings) (s : State) : Answer :=
  let s1 := presentReadings r s
  if s.power.running then done (budgetTick r s1) else .next s1

/-- PEER_CUTOFF_TEST (R90). -/
def execPeerCutoffTest (s : State) : Answer :=
  if s.power.running then .next s
  else
    let s1 := s.setPower { s.power with timer := 0 }
    done (if peerInCutoff s.peers then enterCutoff .peer s1 else s1)

end Sys2Proof.Machine
end

