-- ==== Sys2Proof/Machine/Steering.lean ====
section
/-! DEFINITION. The meanings of the steering unit's commands (spec 06, 6.6): the actuator loop, the stall watch and the
sensor loss. -/

namespace Sys2Proof.Machine

/-- The centre of a calibration in counts (R119). -/
def centreOf (c : Calibration) : Nat := rdivNat (c.left + c.right) 2

/-- The measured angle in tenths (R119). -/
def angleOf (c : Calibration) (steerStop pot : Nat) : Int :=
  rdiv (((pot : Int) - centreOf c) * 2 * steerStop) ((c.right : Int) - c.left)

/-- A POT sample out of range (R126, R192). -/
def potOut (pot : Nat) : Bool := pot < 100 || 3995 < pot

/-- The conditions under which the actuator loop runs (R120, R197). -/
def loopAllowed (s : State) : Bool :=
  roleOf s = .corner
    && (s.node.state = .run || (s.node.state = .failsafe && s.intake.stage = .one))
    && s.steer.calibration.isSome && !s.monitor.withdrawn.bridgeB && !s.steer.steerLost
    && thermalClass s ≠ .shutdown && s.monitor.tripWait.isNone

/-- The readings of the tick: POT, its angle under the calibration, and the figure of R53 (R119, R122). -/
def readActuator (pot isb : Nat) (s : State) : State :=
  let measured := match s.steer.calibration with
    | none => s.steer.measured
    | some c => angleOf c (fieldsOf s).steer.steerStop pot
  let s1 := s.setPins { s.pins with pot, isb }
  presentTarget (s1.setSteer { s1.steer with measured, timer := 0 })

/-- The limit of the node's axle; 0 on a corner without an axle (R109, R120). -/
def axleLimit (s : State) : Int :=
  match axleOf s with
  | none => 0
  | some a => a.2

/-- The loop starts after being suspended (R120). -/
def startLoop (s : State) : State :=
  if s.steer.loop then s
  else
    s.setSteer { s.steer with actuator := clampInt (-axleLimit s) (axleLimit s) s.steer.measured, stallWindow := none
                              stallLimit := none, loop := true }

/-- The stall limit is in force before its end (R125). -/
def stallLimited (s : State) : Bool :=
  match s.steer.stallLimit with
  | none => false
  | some t => s.now < t

/-- A signed duty as a setting; 0 is a hold in BRAKE (R123, R136). -/
def settingOf (duty : Int) : Setting :=
  if 0 < duty then ⟨.fwd, duty.toNat⟩ else if duty < 0 then ⟨.rev, (-duty).toNat⟩ else ⟨.brake, 0⟩

/-- The raw duty of the position loop; 0 within the deadband (R123). -/
def steerRaw (f : ImageSteer) (err : Int) : Int :=
  if err.natAbs ≤ f.steerDeadband then 0 else rdiv (f.kpS * err) 16

/-- A stall (R125): the limit comes into force, and a third stall within 10 s adds a record. -/
def declareStall (err : Int) (s : State) : State :=
  let recent := s.steer.stallHistory.filter (within s.now 10000)
  let s1 := s.setSteer { s.steer with stallLimit := some (s.now + 1000), stallWindow := none
                                      stallHistory := if 2 ≤ recent.length then [] else recent ++ [s.now] }
  if 2 ≤ recent.length then addFault .steerStall .bridgeB err s1 else s1

/-- The next stall window at a tick, and whether a stall is declared (R125); movement at a tick that finds the window
300 ms old restarts it (log 43). -/
def watchStall (s : State) (err duty : Int) : Option StallWindow × Bool :=
  let fresh : StallWindow := { start := s.now, angle := s.steer.measured }
  if 30 < err.natAbs ∧ 400 ≤ duty.natAbs then
    match s.steer.stallWindow with
    | none => (some fresh, false)
    | some w =>
      if 5 ≤ (s.steer.measured - w.angle).natAbs then (some fresh, false)
      else if 300 ≤ s.now - w.start then (none, true)
      else (some w, false)
  else (none, false)

/-- A tick on which the loop runs (R121, R123 to R125). -/
def loopTick (isb : Nat) (s : State) : State :=
  let f := (fieldsOf s).steer
  let actuator := approach s.steer.actuator s.steer.presented f.steerSlew
  let err := actuator - s.steer.measured
  let ceiling := moveCeiling isb s.power.grants.bridgeB s.steer.ceiling
  let raw := steerRaw f err
  let cut := clampInt (-ceiling) ceiling raw
  let duty := if stallLimited s then clampInt (-300) 300 cut else cut
  let watch := watchStall s err duty
  let s1 := s.setSteer { s.steer with actuator, ceiling, limited := s.steer.limited || cut ≠ raw
                                      stallWindow := watch.1
                                      stallLimit := if stallLimited s then s.steer.stallLimit else none }
  let s2 := if watch.2 then declareStall err s1 else s1
  let set := settingOf (if watch.2 then clampInt (-300) 300 duty else duty)
  writeBridgeB set.mode set.duty s2

/-- ACTUATOR_TICK (R120 to R125). -/
def execActuatorTick (pot isb : Nat) (s : State) : Answer :=
  if roleOf s = .corner then
    let s1 := readActuator pot isb s
    if loopAllowed s1 then done (loopTick isb (startLoop s1))
    else .next (if s1.steer.loop then offBridgeB s1 else s1)
  else .next (s.setPins { s.pins with pot, isb })

/-- STEER_STALL (R125): while the loop runs, an open window reaches 300 ms; the duty already written is held to ±300 from
now on. -/
def execSteerStall (s : State) : Answer :=
  if s.steer.loop = true ∧ s.steer.stallWindow.isSome = true then
    let s1 := declareStall (s.steer.actuator - s.steer.measured) s
    done (writeBridgeB s1.bridgeB.next.mode (min 300 s1.bridgeB.next.duty) s1)
  else .next s

/-- STALL_LIMIT_END (R125): the next tick writes normal duty. -/
def execStallLimitEnd (s : State) : Answer := .next (s.setSteer { s.steer with stallLimit := none })

/-- STEER_SENSOR_LOST (R126): the POT loss count reaches 20 with a sample out of range; while STEER_LOST stands the count
has stopped (log 44). -/
def execSteerSensorLost (pot : Nat) (s : State) : Answer :=
  if roleOf s = .corner ∧ s.steer.calibration.isSome ∧ isServing s.node.state ∧ s.steer.steerLost = false
      ∧ potOut pot then
    let s1 := s.setPins { s.pins with pot }
    let s2 := s1.setSteer { s1.steer with lossCount := 20, steerLost := true }
    done (addFault .steerSensor .bridgeB pot (offBridgeB (raiseEvent .steerLostChange s2)))
  else .next s

end Sys2Proof.Machine
end

