-- ==== Sys2Proof/Machine/DriveUnit.lean ====
section
/-! DEFINITION. The meanings of the drive unit's commands (spec 07): the encoder, the drive tick, trips, and the PWM period
boundary. -/

namespace Sys2Proof.Machine

/-! ## Measured speed (R132, R133) -/

/-- The magnitude of the measured speed, from the capture pair (R132). -/
def pairSpeed (latest previous : Option Nat) : Nat :=
  match latest, previous with
  | some a, some b => rdivNat 2000000 (a + b)
  | some a, none => rdivNat 1000000 a
  | none, _ => 0

/-- The measured speed with the last edge's direction, in cps (R132). -/
def measuredSpeed (d : Drive) : Int :=
  match d.lastEdge with
  | none => 0
  | some e =>
    match e.dir with
    | .forward => pairSpeed d.latest d.previous
    | .reverse => -pairSpeed d.latest d.previous

/-- The reported wheel speed in mm/s (R133). -/
def wheelSpeed (s : State) (measured : Int) : Int :=
  match s.drive.figures with
  | none => 0
  | some w => rdiv (measured * w.circumference) (fieldsOf s).drive.countsPerRev

/-! ## Encoder loss (R134) -/

/-- The encoder is lost. -/
def loseEncoder (s : State) : State :=
  let s1 := s.setDrive { s.drive with encoderLost := true, recovery := 0, integrator := 0, lossWatch := 500 }
  addFault .encoder .bridgeA s.bridgeA.active.duty s1

/-- The encoder is recovered: the count stands at 8, the loop runs closed from the next tick, the integrator at 0. -/
def recoverEncoder (s : State) : State :=
  s.setDrive { s.drive with encoderLost := false, recovery := 8, integrator := 0, lossWatch := 0 }

/-- Bridge A drives harder than 300 per mille. -/
def drivenHard (b : Bridge) : Bool := (b.active.mode = .fwd || b.active.mode = .rev) && 300 < b.active.duty

/-- The loss watch at a drive tick; it does not run while the encoder is lost. -/
def watchLoss (s : State) : State :=
  if s.drive.encoderLost then s
  else if drivenHard s.bridgeA then
    if 500 ≤ s.drive.lossWatch + 5 then loseEncoder s
    else s.setDrive { s.drive with lossWatch := s.drive.lossWatch + 5 }
  else s.setDrive { s.drive with lossWatch := 0 }

/-! ## Targets (R129 to R131) -/

/-- The assisted target, when the winch link record yields one (R131). -/
def assistTarget (s : State) : Option Int :=
  match s.peers.link, s.drive.figures with
  | some l, some w =>
    if l.assist = true ∧ 0 < l.lineSpeed then
      let a := rdiv (l.lineSpeed * (fieldsOf s).winch.assistRatio) 100
      some (clampInt (-w.vMaxCps) w.vMaxCps (rdiv (a * (fieldsOf s).drive.countsPerRev) w.circumference))
    else none
  | _, _ => none

/-- The throttle target (R130). -/
def throttleTarget (s : State) (ramped : Int) : Int :=
  match s.drive.figures with
  | none => 0
  | some w => rdiv (ramped * w.vMaxCps * s.steer.geometry.q) 1000000

/-! ## The speed loop (R134, R136) -/

/-- The three gains of the loop. -/
structure Gains where
  kf : Nat
  kp : Nat
  ki : Nat
  deriving DecidableEq, Repr

/-- The image's gains. -/
def gainsOf (f : ImageDrive) : Gains := { kf := f.kf, kp := f.kp, ki := f.ki }

/-- The integrator after its step (R136 step 2). -/
def integrate (g : Gains) (integrator err : Int) : Int := clampInt (-1000) 1000 (integrator + rdiv (err * g.ki) 64)

/-- The raw duty, with the integrator after its step (R136 step 3). -/
def rawDuty (g : Gains) (target err integrator : Int) : Int :=
  rdiv (target * g.kf) 1024 + rdiv (err * g.kp) 64 + integrator

/-- The duty as a setting; a duty that opposes a target that is not 0 is BRAKE (R136 step 5). -/
def loopSetting (target duty : Int) : Setting := if duty * target < 0 then ⟨.brake, 0⟩ else settingOf duty

/-! ## The drive tick (R135) -/

/-- What a row of Table 7-2 leaves: condition, target, integrator, ceiling, whether the ceiling cut the duty, and the
setting written, if any. -/
structure RowResult where
  condition : DriveCondition
  target : Int
  integrator : Int
  ceiling : Nat
  cut : Bool
  set : Option Setting
  deriving DecidableEq, Repr

/-- The output monitor's CHECK test holds bridge A: steps 2 to 4, but not while step 4 waits under SHUTDOWN and has not begun
(R186, R196, log 40). The steps of other outputs are no test steps of bridge A (R144, log 45). -/
def testHoldsA (s : State) : Bool :=
  !s.monitor.waiting &&
    (s.monitor.position = some .pullDownA || s.monitor.position = some .pullUpA || s.monitor.position = some .loadA)

/-- A row that holds the bridge: target and integrator 0, the ceiling unmoved. -/
def holdRow (condition : DriveCondition) (set : Option Setting) (s : State) : RowResult :=
  { condition, target := 0, integrator := 0, ceiling := s.drive.ceiling, cut := false, set }

/-- Rows 1 to 5 of Table 7-2. Every tick during a trip wait is TRIP_WAIT (R144), and row 2 writes nothing while a CHECK
test has the bridge (log 17). -/
def earlyRow (s : State) : Option RowResult :=
  if s.monitor.withdrawn.bridgeA then some (holdRow .held (some ⟨s.monitor.holdA.getD .off, 0⟩) s)
  else if s.drive.tripWait.isSome then some (holdRow .tripWait none s)
  else if s.node.state ≠ .run then
    if testHoldsA s then some (holdRow .held none s) else some (holdRow .held (some ⟨.brake, 0⟩) s)
  else if thermalClass s = .shutdown then some (holdRow .held (some ⟨.brake, 0⟩) s)
  else if assistInForce s = true ∧ assistTarget s = none then some (holdRow .stop (some ⟨.brake, 0⟩) s)
  else none

/-- Rows 6 to 9 of Table 7-2, with the ramped throttle already moved. -/
def lateRow (s : State) (isa : Nat) (ramped measured : Int) : RowResult :=
  let f := (fieldsOf s).drive
  let g := gainsOf f
  let ceiling := moveCeiling isa s.power.grants.bridgeA s.drive.ceiling
  let assist := assistInForce s
  if assist = false ∧ ramped.natAbs < f.throttleDeadband then
    { condition := .neutral, target := 0, integrator := 0, ceiling, cut := false, set := some ⟨.drag, 0⟩ }
  else
    let target := if assist then (assistTarget s).getD 0 else throttleTarget s ramped
    if target * measured < 0 ∧ 40 < measured.natAbs then
      { condition := .reversalHold, target, integrator := 0, ceiling, cut := false, set := some ⟨.brake, 0⟩ }
    else if s.drive.encoderLost then
      let raw := clampInt (-500) 500 (rdiv (target * g.kf) 1024)
      let duty := clampInt (-ceiling) ceiling raw
      { condition := .openLoop, target, integrator := 0, ceiling, cut := duty ≠ raw, set := some (settingOf duty) }
    else
      let err := target - measured
      let integrator := integrate g s.drive.integrator err
      let raw := rawDuty g target err integrator
      let duty := clampInt (-ceiling) ceiling raw
      { condition := .loop, target, integrator, ceiling, cut := duty ≠ raw, set := some (loopSetting target duty) }

/-- Write a setting as bridge A's next, if there is one. -/
def writeIf (set : Option Setting) (s : State) : State :=
  match set with
  | none => s
  | some x => writeBridgeA x.mode x.duty s

/-- The row taken and the ramped throttle it leaves (R129, R135). -/
def takeRow (isa : Nat) (s : State) : RowResult × Int :=
  match earlyRow s with
  | some r => (r, 0)
  | none =>
    let ramped := if assistInForce s then 0
      else approach s.drive.ramped (presented s).throttle (fieldsOf s).drive.throttleRamp
    (lateRow s isa ramped s.drive.measured, ramped)

/-- BRAKING at a drive tick (R143). -/
def brakingNow (s : State) : Bool :=
  ((s.bridgeA.active.mode = .brake || s.bridgeA.active.mode = .drag) && 30 ≤ s.drive.speed.natAbs)
    || s.drive.ramped.natAbs < s.drive.prevRamped

/-- The flags of R143; a change of BRAKING is an immediate-report event. -/
def setDriveFlags (s : State) : State :=
  let braking := brakingNow s
  let s1 := s.setDrive { s.drive with braking, reversing := s.bridgeA.active.mode = .rev }
  if braking = s.drive.braking then s1 else raiseEvent .brakingChange s1

/-- The tick of a corner. The loss watch runs before the rows of Table 7-2, so the tick that declares the loss already takes
OPEN_LOOP (R134, R135, log 35). -/
def cornerTick (isa : Nat) (s : State) : State :=
  let measured := measuredSpeed s.drive
  let s1 := watchLoss (s.setDrive { s.drive with measured, speed := wheelSpeed s measured })
  let s2 := s1.setDrive { s1.drive with prevRamped := s1.drive.tickRamped }
  let r := takeRow isa s2
  let s3 := s2.setDrive { s2.drive with ramped := r.2, tickRamped := r.2.natAbs, condition := r.1.condition, target := r.1.target
                                        integrator := r.1.integrator, ceiling := r.1.ceiling
                                        limited := s2.drive.limited || r.1.cut }
  setDriveFlags (writeIf r.1.set s3)

/-- DRIVE_TICK (R135); on the winch position the tick forms the measured speed alone (R147, log 26). -/
def execDriveTick (isa : Nat) (s : State) : Answer :=
  let s1 := (s.setPins { s.pins with isa }).setDrive { s.drive with timer := 0 }
  match roleOf s with
  | .corner => done (cornerTick isa s1)
  | .winch => .next (s1.setDrive { s1.drive with measured := measuredSpeed s1.drive })
  | .plain => .next s1
  | .unplaced => .next s1

/-! ## Encoder edges (R132, R134, R153) -/

/-- The capture of an edge (R132). -/
def captureEdge (dir : Direction) (interval : Nat) (d : Drive) : Drive :=
  let same := match d.lastEdge with
    | none => false
    | some e => e.dir = dir
  if same then
    { d with latest := some (clampNat 1 250000 interval), previous := d.latest, lastEdge := some { dir, age := 0 }
             lossWatch := 0 }
  else { d with latest := none, previous := none, lastEdge := some { dir, age := 0 }, lossWatch := 0 }

/-- The sign of a direction. -/
def dirSign : Direction → Int
  | .forward => 1
  | .reverse => -1

/-- The recovery count at an edge while the encoder is lost; outside RUN no target is set (R134). -/
def countRecovery (dir : Direction) (s : State) : State :=
  if s.drive.encoderLost then
    if s.node.state = .run ∧ signOf s.drive.target = dirSign dir then
      if 8 ≤ s.drive.recovery + 1 then recoverEncoder s
      else s.setDrive { s.drive with recovery := s.drive.recovery + 1 }
    else s.setDrive { s.drive with recovery := 0 }
  else s

/-- The direction of an operation in which an edge turns the drum (R153). -/
def edgeWinchDir : Direction → WinchDir
  | .forward => .haul
  | .reverse => .payOut

/-- The line-out count after an edge, in hundredths of a mm (R153). -/
def countLine (dir : Direction) (step count : Nat) : Nat :=
  match dir with
  | .forward => count - step
  | .reverse => min 3000000 (count + step)

/-- The first-edge times of the operation in progress, in its direction and against it (R163). -/
def markFirstEdge (dir : Direction) (now : Nat) (op : Option OperationRecord) : Option OperationRecord :=
  op.map fun r =>
    if r.dir = edgeWinchDir dir then { r with firstEdge := r.firstEdge.or (some now) }
    else { r with otherEdge := r.otherEdge.or (some now) }

/-- An edge of the drum encoder: the count, the first edge, the soft limit (R153, R158, R163). -/
def drumEdge (dir : Direction) (s : State) : State :=
  let f := (fieldsOf s).winch
  let lineOut := countLine dir f.lineMmPer100 s.winch.lineOut
  let s1 := s.setWinch { s.winch with lineOut, op := markFirstEdge dir s.now s.winch.op }
  if s1.winch.drum = .payOut ∧ dir = .reverse ∧ s1.winch.referenced = true ∧ f.maxLine ≤ lineOut / 100 then
    endOperation .softLimit .atLimitOut s1
  else s1

/-- ENCODER_EDGE (R132, R134, R153). -/
def execEncoderEdge (dir : Direction) (interval : Nat) (s : State) : Answer :=
  let s1 := s.setDrive (captureEdge dir interval s.drive)
  match roleOf s with
  | .corner => .next (countRecovery dir s1)
  | .winch => done (drumEdge dir s1)
  | .plain => .next s
  | .unplaced => .next s

/-- 250 ms have passed since the last edge (R132); an edge taken first has restarted them. -/
def edgeExpired (e : LastEdge) : Bool := 250 ≤ e.age

/-- ENCODER_EDGE_TIMEOUT (R132). -/
def execEncoderEdgeTimeout (s : State) : Answer :=
  .next (if s.drive.lastEdge.any edgeExpired then
    s.setDrive { s.drive with latest := none, previous := none, lastEdge := none } else s)

/-- ENCODER_LOST (R134): the loss watch reaches 500 ms. -/
def execEncoderLost (s : State) : Answer :=
  if roleOf s = .corner ∧ s.drive.encoderLost = false then done (loseEncoder s) else .next s

/-- ENCODER_RECOVERED (R134): the recovery count reaches 8, in RUN alone. -/
def execEncoderRecovered (s : State) : Answer :=
  .next (if roleOf s = .corner ∧ s.node.state = .run ∧ s.drive.encoderLost = true then recoverEncoder s else s)

/-! ## Trips (R144, R145) -/

/-- The third trip within 1000 ms withdraws bridge A (R145). -/
def withdrawByTrips (s : State) : State :=
  let s1 := s.setDrive { s.drive with wheelLost := true, tripHistory := [], tripWait := none }
  addFault .overcurrent .bridgeA 3 (withdrawA s1.monitor.record.bridgeA s1)

/-- A trip of bridge A (R144). -/
def tripA (s : State) : State :=
  let recent := s.drive.tripHistory.filter (within s.now 1000)
  if 2 ≤ recent.length then withdrawByTrips s
  else
    let s1 := forceBridgeA .off 0 (zeroDrive s)
    let s2 := s1.setDrive { s1.drive with tripWait := some (s.now + 100), tripHistory := recent ++ [s.now] }
    let s3 := s2.setWinch { s2.winch with stallWindow := none, integrator := 0 }
    addFault .overcurrent .bridgeA (recent.length + 1) s3

/-- OVERCURRENT_TRIP (R144): a current above 2 × node_cap in a mode other than OFF, outside the CHECK load pulse (R189). The
hold of a withdrawn bridge A stays, and no trip of it is taken (R145, R193, log 38). -/
def execOvercurrentTrip (current : Nat) (s : State) : Answer :=
  if tripLevelA s < current ∧ s.bridgeA.active.mode ≠ .off ∧ s.drive.tripWait = none ∧ testHoldsA s = false ∧
      s.monitor.withdrawn.bridgeA = false then
    done (tripA s)
  else .next s

/-- TRIP_WAIT_END (R144). -/
def execTripWaitEnd (s : State) : Answer := .next (s.setDrive { s.drive with tripWait := none })

/-- PWM_PERIOD_BOUNDARY (R141, R120): the next settings become the active settings. -/
def execPwmPeriodBoundary (s : State) : Answer :=
  .next ((s.setBridgeA s.bridgeA.boundary).setBridgeB s.bridgeB.boundary)

end Sys2Proof.Machine
end

