-- ==== Sys2Proof/Machine/WinchUnit.lean ====
section
/-! DEFINITION. The meanings of the winch unit's commands (spec 08): the control tick with the drum state machine, the limit
inputs, the governor and the WINCH timer. -/

namespace Sys2Proof.Machine

/-! ## Lever and requests (R150, R155) -/

/-- What the lever asks for; ±100 is at rest (R150). -/
def leverRequest (lever : Int) : Option WinchDir :=
  if 100 < lever then some .haul else if lever < -100 then some .payOut else none

/-- The lever speed target in mm/s (R150). -/
def leverSpeed (speedMax : Nat) (lever : Int) : Nat := rdivNat ((lever.natAbs - 100) * speedMax) 900

/-- A line speed in drum counts per second (R150). -/
def lineCps (lineMm speed : Nat) : Nat := rdivNat (speed * 100) lineMm

/-- The limit pattern is formed (R151). -/
def patternFormed (w : Winch) : Bool := w.filter0.accepted.isSome && w.filter1.accepted.isSome

/-- The pattern is formed and both levels are OPEN (R151). -/
def patternMatches (w : Winch) : Bool := w.filter0.accepted = some .opened && w.filter1.accepted = some .opened

/-- The soft limit holds (R155). -/
def softLimited (s : State) : Bool := s.winch.referenced && (fieldsOf s).winch.maxLine ≤ s.winch.lineOut / 100

/-- A request in a direction is allowed (R155). -/
def requestAllowed (s : State) (dir : WinchDir) : Bool :=
  patternFormed s.winch && thermalClass s ≠ .shutdown &&
    match dir with
    | .haul => s.winch.filter0.accepted ≠ some .closed
    | .payOut => s.winch.filter1.accepted ≠ some .closed && !softLimited s

/-- FREESPOOL is refused (R155, R197). -/
def freespoolRefused (s : State) : Bool :=
  s.monitor.withdrawn.bridgeB || s.monitor.tripWait.isSome || thermalClass s = .shutdown

/-- Entry to ENGAGING opens an operation record (R156). -/
def startEngaging (dir : WinchDir) (s : State) : State :=
  let s1 := setDrum .engaging s
  s1.setWinch { s1.winch with op := some { dir, start := s.now, firstEdge := none, otherEdge := none, peak := 0 }, engageTimer := some 0 }

/-- A control tick drives the solenoid at its ceiling, which limits it while below 1000 (R160). -/
def driveSolenoid (isb : Nat) (s : State) : State :=
  let ceiling := moveCeiling isb s.power.grants.bridgeB s.winch.solenoidCeiling
  writeBridgeB .fwd ceiling
    (s.setWinch { s.winch with solenoidCeiling := ceiling
                               solenoidLimited := s.winch.solenoidLimited || ceiling < 1000 })

/-- Entry to FREESPOOL: the control tick that enters it already moves the ceiling (R160, log 19). -/
def startFreespool (isb : Nat) (s : State) : State := driveSolenoid isb (setDrum .freespool s)

/-- The cases of R155 in BRAKED. -/
def fromBraked (isb : Nat) (s : State) : State :=
  let r := presented s
  match leverRequest r.lever with
  | none => if r.freespool = true ∧ freespoolRefused s = false then startFreespool isb s else s
  | some dir => if r.freespool = true ∨ requestAllowed s dir = false then s else startEngaging dir s

/-- The running state of a direction. -/
def runState : WinchDir → DrumState
  | .haul => .haulIn
  | .payOut => .payOut

/-- The record of an operation that starts to run in a direction; a new direction drops the edges of the old one and keeps
its own since the start (R156, R163). -/
def turnRecord (dir : WinchDir) (op : Option OperationRecord) : Option OperationRecord :=
  op.map fun r => if r.dir = dir then r else { r with dir, firstEdge := r.otherEdge, otherEdge := r.firstEdge }

/-! ## The drum loop (R157, R159, R165) -/

/-- The governor cap (R165). -/
def governorCap (s : State) : Option Int :=
  if (presented s).assist then (speedMedian s.peers).map fun m => m + (fieldsOf s).winch.assistSlack else none

/-- The haul speed target under the cap, floored at 0 (R165). -/
def governedSpeed (lever : Nat) (cap : Option Int) : Nat :=
  match cap with
  | none => lever
  | some c => (max 0 (min (lever : Int) c)).toNat

/-- The setting of a drum duty by direction (R157). -/
def drumSetting (dir : WinchDir) (duty : Int) : Setting :=
  match dir with
  | .haul => if 0 < duty then ⟨.fwd, duty.toNat⟩ else ⟨.brake, 0⟩
  | .payOut => if duty < 0 then ⟨.rev, (-duty).toNat⟩ else ⟨.brake, 0⟩

/-- The speed target of a tick in a running state. -/
def setDrumTarget (dir : WinchDir) (s : State) : State :=
  let f := (fieldsOf s).winch
  let lever := leverSpeed f.speedMax (presented s).lever
  let cap := if dir = .haul then governorCap s else none
  let speed := governedSpeed lever cap
  let cps : Int := lineCps f.lineMmPer100 speed
  s.setWinch { s.winch with speedTarget := speed, targetCps := if dir = .haul then cps else -cps, cap }

/-- The loop of a running state; in a trip wait it writes nothing and the integrator is 0 (R157, log 19). -/
def drumLoop (dir : WinchDir) (isa : Nat) (s : State) : State :=
  if s.drive.tripWait.isSome then s.setWinch { s.winch with integrator := 0 }
  else
    let g := gainsOf (fieldsOf s).drive
    let ceiling := moveCeiling isa s.power.grants.bridgeA s.winch.drumCeiling
    let err := s.winch.targetCps - s.drive.measured
    let integrator := integrate g s.winch.integrator err
    let raw := rawDuty g s.winch.targetCps err integrator
    let duty := clampInt (-ceiling) ceiling raw
    let set := drumSetting dir duty
    writeBridgeA set.mode set.duty
      (s.setWinch { s.winch with integrator, drumCeiling := ceiling, drumLimited := s.winch.drumLimited || duty ≠ raw })

/-- The stall watch of HAUL_IN (R159). -/
def watchDrum (isa : Nat) (s : State) : State :=
  if (fieldsOf s).winch.stall < isa ∧ s.winch.lineSpeed.natAbs < 5 ∧ s.drive.tripWait = none then
    match s.winch.stallWindow with
    | none => s.setWinch { s.winch with stallWindow := some s.now }
    | some t => if 400 ≤ s.now - t then endOperation .stall .stalled s else s
  else s.setWinch { s.winch with stallWindow := none }

/-- A tick in HAUL_IN or PAY_OUT (R157, R158): the lever is read before the stall watch (log 53). -/
def fromRunning (dir : WinchDir) (isa : Nat) (s : State) : State :=
  if leverRequest (presented s).lever = some dir then
    let s1 := drumLoop dir isa (setDrumTarget dir s)
    if dir = .haul then watchDrum isa s1 else s1
  else endOperation .lever .braked s

/-- The end of the engage delay (R156); an entered state forms its speed target in the same tick (R157, log 19). -/
def engageEnd (s : State) : State :=
  match leverRequest (presented s).lever with
  | none => setDrum .braked (closeOperation .lever s)
  | some dir =>
    if requestAllowed s dir then
      setDrumTarget dir (setDrum (runState dir) (s.setWinch { s.winch with op := turnRecord dir s.winch.op }))
    else setDrum .braked (closeOperation .lever s)

/-- The control tick that enters a running state already runs its loop and its stall watch (log 19). -/
def runEntered (isa : Nat) (s : State) : State :=
  if s.winch.drum = .haulIn then watchDrum isa (drumLoop .haul isa s)
  else if s.winch.drum = .payOut then drumLoop .payOut isa s
  else s

/-- A tick in ENGAGING (R156). -/
def fromEngaging (isa : Nat) (s : State) : State :=
  if leverRequest (presented s).lever = none then setDrum .braked (closeOperation .lever s)
  else match s.winch.engageTimer with
    | none => s
    | some t => if 150 ≤ t then runEntered isa (engageEnd s) else s

/-- A tick in FREESPOOL (R160). -/
def fromFreespool (isb : Nat) (s : State) : State :=
  if (presented s).freespool then driveSolenoid isb s else setDrum .braked (offBridgeB s)

/-- A blocked state is left when the lever no longer asks in its direction (R158). -/
def fromBlocked (dir : WinchDir) (s : State) : State :=
  if leverRequest (presented s).lever = some dir then s else setDrum .braked s

/-! ## The control tick (R149) -/

/-- The line speed in mm/s (R154). -/
def lineSpeedOf (lineMm : Nat) (measured : Int) : Int := clampInt (-1000) 1000 (rdiv (measured * lineMm) 100)

/-- The readings of the tick (R149, R154, R163, R164). -/
def readControl (isa isb : Nat) (s : State) : State :=
  let s1 := s.setPins { s.pins with isa, isb }
  s1.setWinch { s1.winch with
    timer := 0, motorCurrent := isa, speedTarget := 0, targetCps := 0
    lineSpeed := lineSpeedOf (fieldsOf s).winch.lineMmPer100 s.drive.measured
    op := s.winch.op.map fun r => { r with peak := max r.peak isa } }

/-- The drum motor's hold outside HAUL_IN and PAY_OUT (Table 8-2); a CHECK test or a trip wait has the bridge. -/
def restDrum (s : State) : State :=
  if testHoldsA s || s.drive.tripWait.isSome then s else writeBridgeA (safeModeA s) 0 s

/-- The drum state machine in RUN. -/
def drumTick (isa isb : Nat) (s : State) : State :=
  match s.winch.drum with
  | .braked => fromBraked isb (restDrum s)
  | .engaging => fromEngaging isa (restDrum s)
  | .haulIn => fromRunning .haul isa s
  | .payOut => fromRunning .payOut isa s
  | .stalled => fromBlocked .haul (restDrum s)
  | .atLimitIn => fromBlocked .haul (restDrum s)
  | .atLimitOut => fromBlocked .payOut (restDrum s)
  | .freespool => fromFreespool isb (restDrum s)
  | .withdrawn => restDrum s

/-- CONTROL_TICK (R149): lever and switch requests are taken in RUN alone. -/
def execControlTick (isa isb : Nat) (s : State) : Answer :=
  if roleOf s = .winch then
    let s1 := readControl isa isb s
    if s.node.state = .run then done (drumTick isa isb s1) else .next (restDrum s1)
  else .next (s.setPins { s.pins with isa, isb })

/-! ## Limit inputs (R151, R152) -/

/-- A level accepted; the count returns to 0. -/
def acceptLevel (x : Option SwitchLevel) (f : LimitFilter) : LimitFilter :=
  match x with
  | none => f
  | some l => { accepted := some l, candidate := some l, count := 0 }

/-- What an acceptance does (R152). -/
def acceptLimits (sw0 sw1 : Option SwitchLevel) (s : State) : State :=
  let w := { s.winch with filter0 := acceptLevel sw0 s.winch.filter0, filter1 := acceptLevel sw1 s.winch.filter1 }
  let event := patternMatches s.winch && !patternMatches w
  let hookIn := event && w.filter0.accepted = some .closed
  let s1 := s.setWinch { w with lineOut := if hookIn then 0 else w.lineOut, referenced := w.referenced || hookIn }
  if s1.winch.drum = .haulIn ∧ w.filter0.accepted = some .closed then endOperation .limitIn .atLimitIn s1
  else if s1.winch.drum = .payOut ∧ w.filter1.accepted = some .closed then endOperation .limitOut .atLimitOut s1
  else s1

/-- LIMIT_ACCEPTANCE (R151, R152), while the winch role is held. -/
def execLimitAcceptance (sw0 sw1 : Option SwitchLevel) (s : State) : Answer :=
  let s1 := s.setPins { s.pins with sw0 := sw0.getD s.pins.sw0, sw1 := sw1.getD s.pins.sw1 }
  if roleOf s = .winch then done (acceptLimits sw0 sw1 s1) else .next s1

/-! ## The other events -/

/-- ENGAGE_DELAY_END (R156, R157): the row carries no current, so the loop first runs at the next control tick (log 19). -/
def execEngageDelayEnd (s : State) : Answer :=
  if roleOf s = .winch ∧ s.node.state = .run ∧ s.winch.drum = .engaging then done (engageEnd s) else .next s

/-- WINCH_STALL (R159): an open window reaches 400 ms in HAUL_IN. -/
def execWinchStall (s : State) : Answer :=
  if s.winch.drum = .haulIn ∧ s.winch.stallWindow.isSome then done (endOperation .stall .stalled s) else .next s

/-- WINCH_TIMER_EXPIRY (R164). -/
def execWinchTimerExpiry (s : State) : Answer :=
  .next (if roleOf s = .winch ∧ isServing s.node.state ∧ s.winch.winchTimer.isSome then placeWinch s else s)

end Sys2Proof.Machine
end

