-- ==== Sys2Proof/Machine/MonitorUnit.lean ====
section
/-! DEFINITION. The meanings of the output monitor's commands (spec 10): the CHECK steps, bridge B trips and the
temperatures. -/

namespace Sys2Proof.Machine

/-! ## Results -/

/-- Change the check record. -/
def setRecord (f : CheckRecord → CheckRecord) (s : State) : State :=
  s.setMonitor { s.monitor with record := f s.monitor.record }

/-- A failing result of bridge A: withdrawn, recorded, the sequence goes on (R193). -/
def failA (result : CheckResult) (st : CheckStep) (s : State) : State :=
  let s1 := setRecord (fun r => { r with bridgeA := result }) s
  completeStep st (withdrawA result (addFault .checkFail .bridgeA (checkCode result) s1))

/-- A sweep that fails in its return phase leaves the calibration and STEER_LOST from before it (R192, log 16). -/
def restorePrior (st : CheckStep) (s : State) : State :=
  if st = .sweepReturn then
    let x := s.monitor.sweep
    let s1 := s.setSteer { s.steer with calibration := x.priorCalibration, steerLost := x.priorLost }
    if x.priorLost = s.steer.steerLost then s1 else raiseEvent .steerLostChange s1
  else s

/-- A failing result of bridge B (R193). -/
def failB (result : CheckResult) (st : CheckStep) (s : State) : State :=
  let s1 := setRecord (fun r => { r with bridgeB := result }) (restorePrior st s)
  completeStep st (withdrawB (addFault .checkFail .bridgeB (checkCode result) s1))

/-- Bridge A passes its load step. -/
def passA (s : State) : State := completeStep .loadA (setRecord (fun r => { r with bridgeA := .ok }) s)

/-- Bridge B passes its load step. -/
def passB (s : State) : State := completeStep .loadB (setRecord (fun r => { r with bridgeB := .ok }) s)

/-! ## Steps 1 to 4, and 5 to 7 -/

/-- SUPPLY_TEST_RETRY (R187). -/
def execSupplyTestRetry (vpack : Int) (s : State) : Answer :=
  if s.monitor.position = some .supply then
    let s1 := s.setPins { s.pins with vpack }
    if supplyPasses vpack then done (completeStep .supply s1)
    else .next (s1.setMonitor { s1.monitor with stepTimer := 0 })
  else .next s

/-- An output reads above half of VPACK (R188, R190). -/
def readsHigh (out vpack : Int) : Bool := vpack < 2 * out

/-- An output reads below a tenth of VPACK (R188). -/
def readsLow (out vpack : Int) : Bool := 10 * out < vpack

/-- PULL_TEST_END (R188). -/
def execPullTestEnd (out vpack : Int) (s : State) : Answer :=
  match s.monitor.position with
  | some .pullDownA =>
    let s1 := s.setPins { s.pins with vpack, outA := out }
    done (if readsHigh out vpack then failA .shortSupply .pullDownA s1 else completeStep .pullDownA s1)
  | some .pullUpA =>
    let s1 := s.setPins { s.pins with vpack, outA := out }
    done (if readsLow out vpack then failA .shortGnd .pullUpA s1 else completeStep .pullUpA s1)
  | some .pullDownB =>
    let s1 := s.setPins { s.pins with vpack, outB := out }
    done (if readsHigh out vpack then failB .shortSupply .pullDownB s1 else completeStep .pullDownB s1)
  | some .pullUpB =>
    let s1 := s.setPins { s.pins with vpack, outB := out }
    done (if readsLow out vpack then failB .shortGnd .pullUpB s1 else completeStep .pullUpB s1)
  | _ => .next s

/-- The load resistance in mΩ of a pulse, none at 0 dA (R189). -/
def loadResistance (vpack : Int) (current : Nat) : Option Nat :=
  if current = 0 then none else some (rdivNat (vpack.toNat * 100) 1000 * 10 / current)

/-- The result of a load resistance against its window (Table 10-4). -/
def loadResult (lo hi : Nat) (r : Option Nat) : CheckResult :=
  match r with
  | none => .opened
  | some x => if hi < x then .opened else if x < lo then .lowR else .ok

/-- The window of bridge B, by role (Table 10-4). -/
def loadWindowB (s : State) : Nat × Nat := if roleOf s = .winch then (2000, 50000) else (500, 30000)

/-- LOAD_PULSE_END (R189). -/
def execLoadPulseEnd (current : Nat) (s : State) : Answer :=
  let r := loadResistance s.monitor.pulseVpack current
  match s.monitor.position with
  | some .loadA =>
    if s.monitor.waiting then .next s
    else
      let result := loadResult 50 20000 r
      done (if result = .ok then passA s else failA result .loadA s)
  | some .loadB =>
    if s.monitor.waiting then .next s
    else
      let result := loadResult (loadWindowB s).1 (loadWindowB s).2 r
      done (if result = .ok then passB s else failB result .loadB s)
  | _ => .next s

/-- LOAD_PULSE_TRIP (R189): above the bridge's trip level the result is LOW_R. -/
def execLoadPulseTrip (current : Nat) (s : State) : Answer :=
  match s.monitor.position with
  | some .loadA =>
    if tripLevelA s < current ∧ s.monitor.waiting = false then done (failA .lowR .loadA s) else .next s
  | some .loadB =>
    if tripLevelB < current ∧ s.monitor.waiting = false then done (failB .lowR .loadB s) else .next s
  | _ => .next s

/-! ## Step 8 -/

/-- Set one lamp's result. -/
def setLampResult (l : Lamp) (result : CheckResult) (s : State) : State :=
  setRecord (fun r => { r with lamps := r.lamps.put l result }) s

/-- A lamp not found (R190). -/
def lampAbsent (l : Lamp) (s : State) : State :=
  let s1 := setLampResult l .absent s
  completeStep (.lampPresence l) (s1.setMonitor { s1.monitor with absent := s1.monitor.absent.put l true })

/-- LAMP_PRESENCE_TEST_END (R190): a present lamp goes on to its rating. -/
def execLampPresenceTestEnd (pin vpack : Int) (s : State) : Answer :=
  match s.monitor.position with
  | some (.lampPresence l) =>
    let s1 := s.setPins { s.pins with vpack, lampPins := s.pins.lampPins.put l pin }
    if readsHigh pin vpack then .next (beginStep (.lampRating l) s1) else done (lampAbsent l s1)
  | _ => .next s

/-- LAMP_RATING_END (R190). -/
def execLampRatingEnd (mean : Nat) (s : State) : Answer :=
  match s.monitor.position with
  | some (.lampRating l) =>
    let s1 := setLampResult l .ok s
    done (completeStep (.lampRating l)
      (s1.setMonitor { s1.monitor with newRatings := s1.monitor.newRatings.put l (some (min 30 mean)) }))
  | _ => .next s

/-- LAMP_RATING_SHORT (R190, R183). -/
def execLampRatingShort (current : Nat) (s : State) : Answer :=
  match s.monitor.position with
  | some (.lampRating l) =>
    if 30 < current then
      done (completeStep (.lampRating l) (withdrawLamp l current (setLampResult l .shortSupply s)))
    else .next s
  | _ => .next s

/-! ## Step 10 -/

/-- A sweep phase drives bridge B now. -/
def sweeping (s : State) : Option CheckStep :=
  if s.monitor.waiting then none
  else match s.monitor.position with
    | some .sweepLeft => some .sweepLeft
    | some .sweepRight => some .sweepRight
    | some .sweepReturn => some .sweepReturn
    | _ => none

/-- The pair of stops is judged; an accepted pair becomes the calibration and clears STEER_LOST (R119, R192, log 16). -/
def judgePair (left right : Nat) (s : State) : State :=
  if left + 200 ≤ right then
    let sweep := { s.monitor.sweep with priorCalibration := s.steer.calibration, priorLost := s.steer.steerLost }
    let s1 := s.setMonitor { s.monitor with sweep }
    let s2 := if s.steer.steerLost then raiseEvent .steerLostChange s1 else s1
    let s3 := s2.setSteer { s2.steer with calibration := some { left, right }, steerLost := false }
    beginStep .sweepReturn (setRecord (fun r => { r with bridgeB := .ok }) s3)
  else failB .sweepFail .sweepRight s

/-- SWEEP_STOP_FOUND (R192). -/
def execSweepStopFound (pot : Nat) (s : State) : Answer :=
  let s1 := s.setPins { s.pins with pot }
  match sweeping s with
  | some .sweepLeft =>
    .next (beginStep .sweepRight
      (s1.setMonitor { s1.monitor with sweep := { s1.monitor.sweep with left := some pot } }))
  | some .sweepRight => done (judgePair (s.monitor.sweep.left.getD 0) pot s1)
  | _ => .next s

/-- SWEEP_PHASE_TIMEOUT (R192). -/
def execSweepPhaseTimeout (s : State) : Answer :=
  match sweeping s with
  | some .sweepLeft => done (failB .sweepFail .sweepLeft s)
  | some .sweepRight => done (failB .sweepFail .sweepRight s)
  | _ => .next s

/-- SWEEP_FAULT (R192): POT out of range for 20 samples, or more than 40 dA, during the sweep. -/
def execSweepFault (s : State) : Answer :=
  match sweeping s with
  | some st => done (failB .sweepFail st s)
  | none => .next s

/-- SWEEP_RETURN_END (R192): bridge B brakes and the sequence completes into SAFE, which holds it OFF (R27). -/
def execSweepReturnEnd (s : State) : Answer :=
  match sweeping s with
  | some .sweepReturn => done (completeStep .sweepReturn (forceBridgeB .brake 0 s))
  | _ => .next s

/-! ## Interruptions (R195, R196) -/

/-- A result returns to NOT_TESTED unless its output is withdrawn (R195). -/
def keepIf (withdrawn : Bool) (r : CheckResult) : CheckResult := if withdrawn then r else .notTested

/-- The record after a supply dip (R195). -/
def dippedRecord (w : Withdrawn) (r : CheckRecord) : CheckRecord :=
  { bridgeA := keepIf w.bridgeA r.bridgeA, bridgeB := keepIf w.bridgeB r.bridgeB
    lamps := Quad.ofLamp fun l => keepIf (w.lamps.get l) (r.lamps.get l), inProgress := r.inProgress }

/-- The step in progress is abandoned and the sequence stands at step 1, whose reading has failed (R195). -/
def dipSequence (s : State) : State :=
  let s1 := restBridges s
  s1.setMonitor { s1.monitor with record := dippedRecord s1.monitor.withdrawn s1.monitor.record
                                  newRatings := Quad.all none, position := some .supply, waiting := false
                                  stepTimer := 0 }

/-- SUPPLY_DIP (R195): VPACK below 5500 mV during steps 2 to 10. -/
def execSupplyDip (vpack : Int) (s : State) : Answer :=
  if s.node.state = .check ∧ s.monitor.position.isSome ∧ s.monitor.position ≠ some .supply ∧ vpack < 5500 then
    .next (dipSequence (s.setPins { s.pins with vpack }))
  else .next s

/-- The result of an abandoned driving step is NOT_TESTED (R196). -/
def forgetResult (st : CheckStep) (r : CheckRecord) : CheckRecord :=
  if st = .loadA then { r with bridgeA := .notTested } else { r with bridgeB := .notTested }

/-- What a change of the thermal class does to the CHECK sequence (R196). A step that waited begins, but one whose output
has been withdrawn meanwhile is skipped (R145, R186, R193, log 40). -/
def checkThermal (before : ThermalClass) (s : State) : State :=
  match s.monitor.position with
  | none => s
  | some st =>
    if before ≠ .shutdown ∧ thermalClass s = .shutdown ∧ isDriving st = true ∧ s.monitor.waiting = false then
      let s1 := setRecord (forgetResult st) (restBridges s)
      s1.setMonitor { s1.monitor with position := some (stepPlace st), waiting := true }
    else if thermalClass s ≠ .shutdown ∧ s.monitor.waiting = true then
      if skipsStep s st then completeStep st s else beginStep st s
    else s

/-- A thermal class change acts at once (R198). -/
def thermalChange (before : ThermalClass) (s : State) : State := checkThermal before (thermalEffects before s)

/-! ## Bridge B trips (R197) -/

/-- A trip of bridge B (R197, R160). -/
def tripB (s : State) : State :=
  let recent := s.monitor.tripHistory.filter (within s.now 1000)
  let s1 := offBridgeB s
  let s2 := s1.setMonitor { s1.monitor with tripWait := some (s.now + 100)
                                            tripHistory := if 2 ≤ recent.length then [] else recent ++ [s.now] }
  let s3 := if s2.winch.drum = .freespool then setDrum .braked s2 else s2
  if 2 ≤ recent.length then addFault .overcurrent .bridgeB 3 (withdrawB s3)
  else addFault .overcurrent .bridgeB (recent.length + 1) s3

/-- BRIDGE_B_TRIP (R197): above 40 dA while bridge B is not OFF, outside the test steps of CHECK. -/
def execBridgeBTrip (current : Nat) (s : State) : Answer :=
  if tripLevelB < current ∧ s.bridgeB.active.mode ≠ .off ∧ s.monitor.position = none then done (tripB s)
  else .next s

/-- BRIDGE_B_TRIP_WAIT_END (R197). -/
def execBridgeBTripWaitEnd (s : State) : Answer := .next (s.setMonitor { s.monitor with tripWait := none })

/-! ## Temperatures (R198, R199) -/

/-- One 10 ms reading of a sensor: it classes the sensor by Table 10-6 while no fault stands, an implausible one too (log 14),
and the tenth implausible reading in a run sets the fault flag (R198, R199). -/
def readSensor (t : Sensor) (reading : Int) (s : State) : State :=
  let x := sensorOf t s.monitor
  if implausible reading then
    if x.fault then setSensor t { x with reading } s
    else if 10 ≤ x.implausible + 1 then failSensor t reading s
    else setSensor t { x with reading, implausible := x.implausible + 1, thermal := classOf x.thermal reading } s
  else
    setSensor t { x with reading, implausible := 0
                         thermal := if x.fault then .warn else classOf x.thermal reading } s

/-- TEMPERATURE_READING (R198): TS1 before the die, and the change of the node's class after both, so the records of one
reading enter in that order (log 52). -/
def execTemperatureReading (ts1 die : Int) (s : State) : Answer :=
  let s1 := s.setPins { s.pins with ts1, die }
  let s2 := readSensor .die die (readSensor .ts1 ts1 s1)
  done (thermalChange (thermalClass s) (s2.setMonitor { s2.monitor with tempTimer := 0 }))

/-- THERMAL_SENSOR_FAULT (R199): the run of implausible readings of a sensor reaches ten. -/
def execThermalSensorFault (t : Sensor) (reading : Int) (s : State) : Answer :=
  if implausible reading = true ∧ (sensorOf t s.monitor).fault = false then
    done (thermalChange (thermalClass s) (failSensor t reading s))
  else .next s

end Sys2Proof.Machine
end

