-- ==== Sys2Proof/Machine/Clock.lean ====
section
/-! DEFINITION. The model's clock: one millisecond of the part's own time (log 1). It ages every timer, samples the pins at
the rates the rules give, and lists the commands that fall due. -/

namespace Sys2Proof.Machine

/-- A timer that runs is one ms older. -/
def tickOpt (t : Option Nat) : Option Nat := t.map (· + 1)

/-! ## Samples -/

/-- One STRAP sample, each ms (R23). -/
def sampleStrap (mv : Int) (r : StrapReading) : StrapReading :=
  match strapBand mv with
  | none => { r with failed := bumpTo 20 r.failed, band := none, count := 0 }
  | some p =>
    if r.count = 0 then { r with band := some p, count := 1, last := some p }
    else if r.band = some p then { r with count := bumpTo 8 r.count, last := some p }
    else { r with failed := bumpTo 20 r.failed, band := none, count := 0, last := some p }

/-- One sample of a limit input, each 4 ms (R151). -/
def sampleLimit (level : SwitchLevel) (f : LimitFilter) : LimitFilter :=
  if f.accepted = some level then { f with count := 0 }
  else if f.candidate = some level then { f with count := bumpTo 3 f.count }
  else { f with candidate := some level, count := 1 }

/-- The POT loss count, each ms (R126); it stands still while STEER_LOST is set (log 44). -/
def sampleLoss (s : State) : Nat :=
  if roleOf s = .corner ∧ s.steer.calibration.isSome ∧ isServing s.node.state ∧ s.steer.steerLost = false then
    if potOut s.pins.pot then bumpTo 20 s.steer.lossCount else 0
  else s.steer.lossCount

/-- The sweep's samples: POT range each ms, a reading each 5 ms from the phase's begin on, kept for 300 ms (R192). -/
def sampleSweep (pot : Nat) (x : Sweep) : Sweep :=
  let elapsed := x.elapsed + 1
  { x with elapsed, bad := if potOut pot then bumpTo 20 x.bad else 0
           readings := if elapsed % 5 = 0 then (pot :: x.readings).take 61 else x.readings }

/-! ## One millisecond -/

/-- 250 bit times of a backoff (R1, R17). -/
def ageSlot (sl : Slot) : Slot :=
  { sl with held := sl.held.map fun h => { h with backoff := h.backoff.map (· - 250) } }

def ageBus (b : Bus) : Bus :=
  { b with
    tx := { b.tx with breakLeft := b.tx.breakLeft.map (· - 250), sinceAttempt := bumpTo 100 b.tx.sinceAttempt }
    slots := { winch := ageSlot b.slots.winch, report := ageSlot b.slots.report, beat := ageSlot b.slots.beat
               answer := ageSlot b.slots.answer } }

def ageNode (strapMv : Int) (n : Node) : Node :=
  { n with
    silenceTimer := tickOpt n.silenceTimer, defaultTimer := tickOpt n.defaultTimer, uptimeTimer := n.uptimeTimer + 1
    reportTimer := tickOpt n.reportTimer, sinceReport := n.sinceReport.map (bumpTo 5)
    noticeTimer := tickOpt n.noticeTimer
    strap := if n.state = .strap then sampleStrap strapMv n.strap else n.strap }

def agePeers (p : Peers) : Peers :=
  { p with table := p.table.map fun e => { e with age := e.age + 1 }
           link := p.link.map fun l => { l with age := l.age + 1 } }

def ageWinch (pins : Pins) (role : Role) (w : Winch) : Winch :=
  let sample := role = .winch && 4 ≤ w.filterTimer + 1
  { w with
    timer := w.timer + 1, winchTimer := tickOpt w.winchTimer, engageTimer := tickOpt w.engageTimer
    filterTimer := if sample then 0 else w.filterTimer + 1
    filter0 := if sample then sampleLimit pins.sw0 w.filter0 else w.filter0
    filter1 := if sample then sampleLimit pins.sw1 w.filter1 else w.filter1 }

def ageMonitor (pins : Pins) (m : Monitor) : Monitor :=
  { m with stepTimer := m.stepTimer + 1, tempTimer := m.tempTimer + 1
           sweep := if m.position.isSome && !m.waiting then sampleSweep pins.pot m.sweep else m.sweep }

/-- Every timer one ms older, every due sample taken. -/
def ageAll (s : State) : State :=
  { s with
    now := s.now + 1
    node := ageNode s.pins.strap s.node
    bus := ageBus s.bus
    peers := agePeers s.peers
    intake := { s.intake with linkAge := s.intake.linkAge.map (bumpTo 10000) }
    power := { s.power with timer := s.power.timer + 1 }
    steer := { s.steer with timer := s.steer.timer + 1, lossCount := sampleLoss s }
    drive := { s.drive with timer := s.drive.timer + 1
                            lastEdge := s.drive.lastEdge.map fun e => { e with age := e.age + 1 } }
    winch := ageWinch s.pins (roleOf s) s.winch
    lights := { s.lights with beatTimer := tickOpt s.lights.beatTimer }
    monitor := ageMonitor s.pins s.monitor }

/-! ## The commands that fall due -/

/-- A command, when it is due. -/
def whenDue (due : Bool) (c : Instr) : List Instr := if due then [c] else []

/-- A running timer has reached its end. -/
def reached (t : Option Nat) (limit : Nat) : Bool :=
  match t with
  | none => false
  | some n => limit ≤ n

/-- An end time has come. -/
def ended (t : Option Nat) (now : Nat) : Bool :=
  match t with
  | none => false
  | some n => n ≤ now

/-- The command of a known query code. -/
def queryCommand : QueryCode → Instr
  | .checkRecord => .checkRecord
  | .fault => .fault
  | .winchLog => .winchLog
  | .counters => .counters
  | .image => .image
  | .budget => .budget
  | .restart => .restart
  | .recheck => .recheck

/-- The command that takes a QUERY. -/
def takeQueryCommand (payload : List Byte) : Instr :=
  match readQuery payload with
  | none => .queryUnknownCode
  | some (_, code, _) =>
    match queryOfCode code with
    | none => .queryUnknownCode
    | some q => queryCommand q

/-- The command by which the owner of a frame takes it (R11). -/
def takeCommandOf (f : RxFrame) : Instr :=
  if f.own then .ownStationFrame
  else match f.kind with
    | .assign => .assign
    | .command => .command
    | .winch => .winch
    | .report => .report
    | .beat => .beatTaken
    | .config => .config
    | .query => takeQueryCommand f.payload
    | .answer => .ownStationFrame

/-- A slot's backoff has run out. -/
def backoffOver (sl : Slot) : Bool :=
  match sl.held with
  | none => false
  | some h => h.backoff = some 0

def dueBus (s : State) : List Instr :=
  whenDue (backoffOver s.bus.slots.winch) (.backoffExpiry .winch)
    ++ whenDue (backoffOver s.bus.slots.report) (.backoffExpiry .report)
    ++ whenDue (backoffOver s.bus.slots.beat) (.backoffExpiry .beat)
    ++ whenDue (backoffOver s.bus.slots.answer) (.backoffExpiry .answer)
    ++ whenDue (s.bus.tx.breakLeft = some 0) .breakEnd
    ++ s.bus.queue.map takeCommandOf

/-- One placement falls due: a held event's, or the periodic one, which clears the mark (R43). -/
def reportDue (s : State) : List Instr :=
  let n := s.node
  if reportsNow s && reached n.reportTimer (reportInterval s) then [.reportTimerExpiry]
  else whenDue (n.heldEvent && reached n.sinceReport 5) .heldEventSpacingExpiry

def dueNode (s : State) : List Instr :=
  let n := s.node
  (match n.strap.band with
    | none => []
    | some p => whenDue (n.state = .strap && n.strap.count = 8) (.strapReadSuccess p))
    ++ whenDue (n.state = .strap && n.strap.failed = 20) (.strapReadFail n.strap.last)
    ++ whenDue (reached n.silenceTimer 100) .silenceTimerExpiry
    ++ whenDue (reached n.defaultTimer 2000) .defaultTimerExpiry
    ++ whenDue (reached n.noticeTimer 500) .conflictNoticeTimer
    ++ whenDue (100 ≤ n.uptimeTimer) .uptimeTick
    ++ reportDue s

def duePeers (s : State) : List Instr :=
  ((s.peers.table.filter fun e => freshnessOf e.age = .lost).map fun e => Instr.peerLost e.station)
    ++ whenDue (s.peers.link.any fun l => !linkValid l) .winchLinkExpiry

def dueIntake (s : State) : List Instr :=
  let t := (fieldsOf s).drive.failsafeTimeout
  whenDue (s.intake.bound.isSome && linkAgeReached t s) .linkExpiry
    ++ whenDue (s.node.state = .failsafe && s.intake.stage = .one && linkAgeReached (stage2Age s) s) .failsafeStage2

/-- The readings a tick takes from the pins as they stand. -/
def pinReadings (p : Pins) : BudgetReadings :=
  { vpack := p.vpack, isa := p.isa, isb := p.isb, lamps := p.lampAmps, cells := p.cells }

def duePower (s : State) : List Instr :=
  whenDue (10 ≤ s.power.timer && s.power.running) (.budgetTick (pinReadings s.pins))
    ++ whenDue (10 ≤ s.power.timer && !s.power.running && s.node.state ≠ .strap) .peerCutoffTest

/-- What falls due in the steering and drive units. The tick timers run from power-on reset, so the first actuator and drive
tick fall in the next millisecond once the role is settled (log 49). -/
def dueMotion (s : State) : List Instr :=
  let corner := roleOf s = .corner
  let winch := roleOf s = .winch
  whenDue (corner && s.steer.lossCount = 20 && !s.steer.steerLost) (.steerSensorLost s.pins.pot)
    ++ whenDue (ended s.steer.stallLimit s.now) .stallLimitEnd
    ++ whenDue (ended s.drive.tripWait s.now) .tripWaitEnd
    ++ whenDue (ended s.monitor.tripWait s.now) .bridgeBTripWaitEnd
    ++ whenDue (s.drive.lastEdge.any edgeExpired) .encoderEdgeTimeout
    ++ whenDue (corner && 5 ≤ s.steer.timer) (.actuatorTick s.pins.pot s.pins.isb)
    ++ whenDue ((corner || winch) && 5 ≤ s.drive.timer) (.driveTick s.pins.isa)

def dueWinch (s : State) : List Instr :=
  let role := roleOf s = .winch
  let a0 := s.winch.filter0.count = 3
  let a1 := s.winch.filter1.count = 3
  whenDue (role && isServing s.node.state && reached s.winch.winchTimer 20) .winchTimerExpiry
    ++ whenDue (role && (a0 || a1))
      (.limitAcceptance (if a0 then s.winch.filter0.candidate else none) (if a1 then s.winch.filter1.candidate else none))
    ++ whenDue (role && 5 ≤ s.winch.timer) (.controlTick s.pins.isa s.pins.isb)

/-- The sweep's stop: the reading differs by less than 8 counts from the one 300 ms before it (R192). -/
def stopFound (x : Sweep) : Bool :=
  300 ≤ x.elapsed && x.elapsed % 5 = 0 &&
    match x.readings[0]?, x.readings[60]? with
    | some a, some b => (Int.ofNat a - Int.ofNat b).natAbs < 8
    | _, _ => false

/-- The return phase has reached the centre or its time (R192); POT is tested each ms (log 46). -/
def returnDone (s : State) : Bool :=
  2000 ≤ s.monitor.sweep.elapsed ||
    match s.steer.calibration with
    | none => false
    | some c => s.pins.pot ≤ centreOf c + 20

/-- The CHECK step in progress reaches its end (Table 10-3). -/
def dueStep (s : State) (st : CheckStep) : List Instr :=
  let t := s.monitor.stepTimer
  let p := s.pins
  match st with
  | .supply => whenDue (100 ≤ t) (.supplyTestRetry p.vpack)
  | .pullDownA => whenDue (2 ≤ t) (.pullTestEnd p.outA p.vpack)
  | .pullUpA => whenDue (2 ≤ t) (.pullTestEnd p.outA p.vpack)
  | .loadA => whenDue (2 ≤ t) (.loadPulseEnd p.isa)
  | .pullDownB => whenDue (2 ≤ t) (.pullTestEnd p.outB p.vpack)
  | .pullUpB => whenDue (2 ≤ t) (.pullTestEnd p.outB p.vpack)
  | .loadB => whenDue (2 ≤ t) (.loadPulseEnd p.isb)
  | .lampPresence l => whenDue (2 ≤ t) (.lampPresenceTestEnd (p.lampPins.get l) p.vpack)
  | .lampRating l => whenDue (20 ≤ t) (.lampRatingEnd (p.lampAmps.get l))
  | .temperature => []
  | .sweepLeft =>
    if stopFound s.monitor.sweep then [.sweepStopFound p.pot]
    else whenDue (4000 ≤ s.monitor.sweep.elapsed) .sweepPhaseTimeout
  | .sweepRight =>
    if stopFound s.monitor.sweep then [.sweepStopFound p.pot]
    else whenDue (4000 ≤ s.monitor.sweep.elapsed) .sweepPhaseTimeout
  | .sweepReturn => whenDue (returnDone s) .sweepReturnEnd

/-- What falls due in CHECK: one event a millisecond, the supply dip before the sweep's bad POT samples, these before its stop,
the stop before the phase's time; what stands behind the first is dropped (log 51). -/
def dueCheck (s : State) : List Instr :=
  match s.monitor.position with
  | none => []
  | some st =>
    if st ≠ .supply ∧ s.pins.vpack < 5500 then [.supplyDip s.pins.vpack]
    else if s.monitor.waiting then []
    else if (sweeping s).isSome && s.monitor.sweep.bad = 20 then [.sweepFault]
    else dueStep s st

/-- The commands due before the period boundary, in the order the model takes them: what a timer ends before the frames that
wait, so that no expiry follows a frame taken in its own millisecond (log 4). -/
def dueBefore (s : State) : List Instr :=
  dueNode s ++ duePeers s ++ dueIntake s ++ whenDue (reached s.lights.beatTimer 25) .beatEvent ++ dueBus s ++ duePower s
    ++ dueMotion s ++ dueWinch s ++ dueCheck s ++ whenDue (10 ≤ s.monitor.tempTimer) (.temperatureReading s.pins.ts1 s.pins.die)

/-- A boundary changes what a bridge applies: the setting, or the dead time of the change before. -/
def Bridge.settles (b : Bridge) : Bool := b.next ≠ b.active || b.left ≠ b.active || !b.atOnce.isEmpty

/-- The commands that fall due; a period boundary follows whatever may have written a setting, and the transmitter starts if
it may. -/
def dueCommands (s : State) : List Instr :=
  let before := dueBefore s
  let boundary := !before.isEmpty || s.bridgeA.settles || s.bridgeB.settles
  before ++ whenDue boundary .pwmPeriodBoundary
    ++ whenDue (mayStart s && (nextEligible s.bus.slots).isSome) .attemptStart

/-- One ms of the part's own time on an empty queue (log 1). -/
def clockTick (s : State) : State :=
  let s1 := ageAll s
  s1.setPending (dueCommands s1)

end Sys2Proof.Machine
end

