-- ==== Sys2Proof/Machine/Dispatch.lean ====
section
/-! DEFINITION. exec: one arm per command, each one direct call of its meaning. -/

namespace Sys2Proof.Machine

def exec (i : Instr) (s : State) : Host.Outcome State Fault Refusal :=
  match i with
  | .powerOnReset => Sys2Proof.Machine.execPowerOnReset s
  | .busIdle => Sys2Proof.Machine.execBusIdle s
  | .frameReceived bytes => Sys2Proof.Machine.execFrameReceived bytes s
  | .receptionFailed how => Sys2Proof.Machine.execReceptionFailed how s
  | .breakRecognised => Sys2Proof.Machine.execBreakRecognised s
  | .attemptStart => Sys2Proof.Machine.execAttemptStart s
  | .arbitrationLost => Sys2Proof.Machine.execArbitrationLost s
  | .lineFault => Sys2Proof.Machine.execLineFault s
  | .collision => Sys2Proof.Machine.execCollision s
  | .backoffExpiry kind => Sys2Proof.Machine.execBackoffExpiry kind s
  | .attemptComplete => Sys2Proof.Machine.execAttemptComplete s
  | .breakEnd => Sys2Proof.Machine.execBreakEnd s
  | .strapReadSuccess pos => Sys2Proof.Machine.execStrapReadSuccess pos s
  | .strapReadFail last => Sys2Proof.Machine.execStrapReadFail last s
  | .silenceTimerExpiry => Sys2Proof.Machine.execSilenceTimerExpiry s
  | .defaultTimerExpiry => Sys2Proof.Machine.execDefaultTimerExpiry s
  | .config => Sys2Proof.Machine.execConfig s
  | .assign => Sys2Proof.Machine.execAssign s
  | .ownStationFrame => Sys2Proof.Machine.execOwnStationFrame s
  | .conflictNoticeTimer => Sys2Proof.Machine.execConflictNoticeTimer s
  | .uptimeTick => Sys2Proof.Machine.execUptimeTick s
  | .reportTimerExpiry => Sys2Proof.Machine.execReportTimerExpiry s
  | .heldEventSpacingExpiry => Sys2Proof.Machine.execHeldEventSpacingExpiry s
  | .report => Sys2Proof.Machine.execReport s
  | .peerLost station => Sys2Proof.Machine.execPeerLost station s
  | .winch => Sys2Proof.Machine.execWinch s
  | .winchLinkExpiry => Sys2Proof.Machine.execWinchLinkExpiry s
  | .checkRecord => Sys2Proof.Machine.execCheckRecord s
  | .fault => Sys2Proof.Machine.execFault s
  | .winchLog => Sys2Proof.Machine.execWinchLog s
  | .counters => Sys2Proof.Machine.execCounters s
  | .image => Sys2Proof.Machine.execImage s
  | .budget => Sys2Proof.Machine.execBudget s
  | .restart => Sys2Proof.Machine.execRestart s
  | .recheck => Sys2Proof.Machine.execRecheck s
  | .queryUnknownCode => Sys2Proof.Machine.execQueryUnknownCode s
  | .command => Sys2Proof.Machine.execCommand s
  | .linkExpiry => Sys2Proof.Machine.execLinkExpiry s
  | .failsafeStage2 => Sys2Proof.Machine.execFailsafeStage2 s
  | .budgetTick readings => Sys2Proof.Machine.execBudgetTick readings s
  | .peerCutoffTest => Sys2Proof.Machine.execPeerCutoffTest s
  | .actuatorTick pot isb => Sys2Proof.Machine.execActuatorTick pot isb s
  | .steerStall => Sys2Proof.Machine.execSteerStall s
  | .stallLimitEnd => Sys2Proof.Machine.execStallLimitEnd s
  | .steerSensorLost pot => Sys2Proof.Machine.execSteerSensorLost pot s
  | .driveTick isa => Sys2Proof.Machine.execDriveTick isa s
  | .encoderEdge dir interval => Sys2Proof.Machine.execEncoderEdge dir interval s
  | .encoderEdgeTimeout => Sys2Proof.Machine.execEncoderEdgeTimeout s
  | .encoderLost => Sys2Proof.Machine.execEncoderLost s
  | .encoderRecovered => Sys2Proof.Machine.execEncoderRecovered s
  | .overcurrentTrip current => Sys2Proof.Machine.execOvercurrentTrip current s
  | .tripWaitEnd => Sys2Proof.Machine.execTripWaitEnd s
  | .controlTick isa isb => Sys2Proof.Machine.execControlTick isa isb s
  | .limitAcceptance sw0 sw1 => Sys2Proof.Machine.execLimitAcceptance sw0 sw1 s
  | .engageDelayEnd => Sys2Proof.Machine.execEngageDelayEnd s
  | .winchStall => Sys2Proof.Machine.execWinchStall s
  | .winchTimerExpiry => Sys2Proof.Machine.execWinchTimerExpiry s
  | .beatEvent => Sys2Proof.Machine.execBeatEvent s
  | .beatTaken => Sys2Proof.Machine.execBeatTaken s
  | .lampShort lamp current => Sys2Proof.Machine.execLampShort lamp current s
  | .supplyTestRetry vpack => Sys2Proof.Machine.execSupplyTestRetry vpack s
  | .pullTestEnd out vpack => Sys2Proof.Machine.execPullTestEnd out vpack s
  | .loadPulseEnd current => Sys2Proof.Machine.execLoadPulseEnd current s
  | .loadPulseTrip current => Sys2Proof.Machine.execLoadPulseTrip current s
  | .lampPresenceTestEnd pin vpack => Sys2Proof.Machine.execLampPresenceTestEnd pin vpack s
  | .lampRatingEnd mean => Sys2Proof.Machine.execLampRatingEnd mean s
  | .lampRatingShort current => Sys2Proof.Machine.execLampRatingShort current s
  | .sweepStopFound pot => Sys2Proof.Machine.execSweepStopFound pot s
  | .sweepPhaseTimeout => Sys2Proof.Machine.execSweepPhaseTimeout s
  | .sweepFault => Sys2Proof.Machine.execSweepFault s
  | .sweepReturnEnd => Sys2Proof.Machine.execSweepReturnEnd s
  | .supplyDip vpack => Sys2Proof.Machine.execSupplyDip vpack s
  | .bridgeBTrip current => Sys2Proof.Machine.execBridgeBTrip current s
  | .bridgeBTripWaitEnd => Sys2Proof.Machine.execBridgeBTripWaitEnd s
  | .temperatureReading ts1 die => Sys2Proof.Machine.execTemperatureReading ts1 die s
  | .thermalSensorFault sensor reading => Sys2Proof.Machine.execThermalSensorFault sensor reading s
  | .frameStart => Sys2Proof.Machine.execFrameStart s
  | .pwmPeriodBoundary => Sys2Proof.Machine.execPwmPeriodBoundary s

end Sys2Proof.Machine
end

