-- ==== Sys2Proof/Safety.lean ====
section
/-! DEFINITION. What counts as a safe state of the block: the promises the manual makes about the whole machine, each as a
predicate on one state that every command is to keep. -/

namespace Sys2Proof.Safety

open Sys2Proof.Machine

/-! ## Frames -/

/-- `t` is `u` but for what settling an immediate-report event may change (R43): the REPORT slot, the report timer and its
spacing, the sequence and the event marks. -/
def SameButReport (u t : State) : Prop :=
  t = { u with
    node := { u.node with
      eventDue := t.node.eventDue, sequence := t.node.sequence, reportTimer := t.node.reportTimer
      sinceReport := t.node.sinceReport, heldEvent := t.node.heldEvent }
    bus := { u.bus with slots := { u.bus.slots with report := t.bus.slots.report } } }

/-- `t` is `u` but for what entering a node state, going on in the CHECK sequence or ending a winch operation may change: the
state and its timers, the WINCH, REPORT and BEAT slots, the intake, allowance and grants, the bridges and their loops, the
drum, the channels, the check record, the fault list. The pins, the counters, the queue, the peers, the image, the serial
number and the uptime are those of `u`. -/
def SameButEntry (u t : State) : Prop :=
  t = { u with
    node := { u.node with
      state := t.node.state, silenceTimer := t.node.silenceTimer, defaultTimer := t.node.defaultTimer
      staging := t.node.staging, armWait := t.node.armWait, noticeTimer := t.node.noticeTimer
      eventDue := t.node.eventDue, sequence := t.node.sequence, reportTimer := t.node.reportTimer
      sinceReport := t.node.sinceReport, heldEvent := t.node.heldEvent }
    bus := { u.bus with slots := { t.bus.slots with answer := u.bus.slots.answer } }
    intake := t.intake
    power := { u.power with allowance := t.power.allowance, grants := t.power.grants }
    bridgeA := t.bridgeA
    bridgeB := t.bridgeB
    steer := { u.steer with
      pendingMode := t.steer.pendingMode, geometry := t.steer.geometry, presented := t.steer.presented
      loop := t.steer.loop, stallWindow := t.steer.stallWindow, stallLimit := t.steer.stallLimit
      lossCount := t.steer.lossCount, centered := t.steer.centered }
    drive := { u.drive with
      ramped := t.drive.ramped, integrator := t.drive.integrator, tripWait := t.drive.tripWait }
    winch := { u.winch with
      drum := t.winch.drum, engageTimer := t.winch.engageTimer, integrator := t.winch.integrator
      stallWindow := t.winch.stallWindow, op := t.winch.op, log := t.winch.log, winchTimer := t.winch.winchTimer
      cap := t.winch.cap }
    lights := { u.lights with
      beatTimer := t.lights.beatTimer, brakeHold := t.lights.brakeHold, channels := t.lights.channels }
    monitor := { t.monitor with tripHistory := u.monitor.tripHistory, tempTimer := u.monitor.tempTimer } }

/-- The bridges, the actuator loop and the drive unit's ramp as every entry to a safe-output state leaves them (R27, R142):
bridge B OFF, bridge A in one mode, active and next alike, with the ramp and the integrator at 0. -/
def HeldSafe (mode : BridgeMode) (t : State) : Prop :=
  t.bridgeA.active = ⟨mode, 0⟩ ∧ t.bridgeA.next = ⟨mode, 0⟩ ∧ t.bridgeB.active = ⟨.off, 0⟩ ∧
  t.bridgeB.next = ⟨.off, 0⟩ ∧ t.steer.loop = false ∧ t.drive.ramped = 0 ∧ t.drive.integrator = 0

/-- The mode in which bridge A is held safe outside STRAP (Table 2-3, R193): its fixed hold when withdrawn, else BRAKE on a
corner or the winch position and OFF elsewhere. -/
def safeHold (withdrawn : Bool) (hold : Option BridgeMode) (role : Role) : BridgeMode :=
  if withdrawn then hold.getD .off else if role = .corner ∨ role = .winch then .brake else .off

/-- The command intake as R75 leaves it, from the record it held. -/
def clearedIntake (held : CommandRecord) : Intake :=
  { bound := none, marker := none, linkAge := none, stage := .none
    record := { held with throttle := 0, steer := 0, lever := 0, hazard := false, assist := false, freespool := false } }

/-- The steps that take no time when the sequence comes to them (R186, R187, R191): those of a withdrawn output or of a role
without it, the supply test that passes, the temperature step. -/
def takesNoTime (t : State) (x : CheckStep) : Bool :=
  let undriven := roleOf t ≠ .corner && roleOf t ≠ .winch
  match x with
  | .supply => 5500 ≤ t.pins.vpack && t.pins.vpack ≤ 18500
  | .pullDownA => undriven || t.monitor.withdrawn.bridgeA
  | .pullUpA => undriven || t.monitor.withdrawn.bridgeA
  | .loadA => undriven || t.monitor.withdrawn.bridgeA
  | .pullDownB => undriven || t.monitor.withdrawn.bridgeB
  | .pullUpB => undriven || t.monitor.withdrawn.bridgeB
  | .loadB => undriven || t.monitor.withdrawn.bridgeB
  | .lampPresence l => t.monitor.withdrawn.lamps.get l
  | .lampRating l => t.monitor.withdrawn.lamps.get l
  | .temperature => true
  | .sweepLeft => roleOf t ≠ .corner || t.monitor.withdrawn.bridgeB
  | .sweepRight => roleOf t ≠ .corner || t.monitor.withdrawn.bridgeB
  | .sweepReturn => roleOf t ≠ .corner || t.monitor.withdrawn.bridgeB

/-- The hold of bridge A while no step has it: its safe hold, but OFF in a trip wait of CHECK that no withdrawal overrides
(R144, R186). -/
def checkRestA (t : State) : Setting :=
  if t.drive.tripWait ≠ none ∧ t.monitor.withdrawn.bridgeA = false then ⟨.off, 0⟩ else ⟨safeModeA t, 0⟩

/-- Both bridges as a step that has just begun, or that waits, has them; with no step they are in their safe holds (R186,
R188, R189, R192, R196). -/
def StepOutputs (t : State) : Prop :=
  t.bridgeA.active = (match t.monitor.position, t.monitor.waiting with
    | none, _ => ⟨safeModeA t, 0⟩
    | some .pullDownA, false => ⟨.off, 0⟩
    | some .pullUpA, false => ⟨.off, 0⟩
    | some .loadA, false => ⟨.fwd, 100⟩
    | _, _ => checkRestA t) ∧
  t.bridgeB.active = (match t.monitor.position, t.monitor.waiting with
    | some .loadB, false => ⟨.fwd, 100⟩
    | some .sweepLeft, false => ⟨.rev, 400⟩
    | some .sweepRight, false => ⟨.fwd, 400⟩
    | some .sweepReturn, false => ⟨.rev, 300⟩
    | _, _ => ⟨.off, 0⟩) ∧
  t.bridgeA.next = t.bridgeA.active ∧ t.bridgeB.next = t.bridgeB.active

/-- The sequence has come to the first of these steps that takes time; SAFE is entered only when none is left (R186). A new
step's time starts, VPACK is read, and a step that drives a bridge waits under SHUTDOWN (R189, R196). -/
def SequenceAt (steps : List CheckStep) (t : State) : Prop :=
  t.monitor.position = steps.find? (fun x => !takesNoTime t x) ∧ StepOutputs t ∧
  t.monitor.waiting = (t.monitor.position.any isDriving && decide (thermalClass t = .shutdown)) ∧
  (t.monitor.position = none → t.node.state = .safe ∧ t.monitor.record.inProgress = false) ∧
  (t.monitor.position ≠ none → t.monitor.stepTimer = 0 ∧
    (t.monitor.waiting = false → t.monitor.pulseVpack = t.pins.vpack))

/-- CHECK was entered (R28, R186): the sequence has come to its first step that takes time, or has run through to SAFE. -/
def InCheckOrThrough (t : State) : Prop :=
  SequenceAt allSteps t ∧ (t.monitor.position ≠ none → t.node.state = .check ∧ t.monitor.record.inProgress = true)

/-- A CHECK step ended and the sequence went on (R186). -/
def Advanced (st : CheckStep) (s t : State) : Prop :=
  SequenceAt (stepsAfter st) t ∧ (t.monitor.position ≠ none →
    t.node.state = s.node.state ∧ t.monitor.record.inProgress = s.monitor.record.inProgress)

/-- A CHECK_FAIL record of an output in the fault list (R193, R200). -/
def FailRecorded (output : FaultOutput) (code : Nat) (s t : State) : Prop :=
  { kind := .checkFail, output, state := s.node.state, uptime := s.node.uptime, detail := code } ∈ t.monitor.faults

/-- The class that a reading gives (Table 10-6). -/
def tableClass (held : ThermalClass) (reading : Int) : ThermalClass :=
  if 140 ≤ reading then .shutdown
  else if held = .shutdown ∧ 130 ≤ reading then .shutdown
  else if 110 ≤ reading then .warn
  else if held ≠ .normal ∧ 100 ≤ reading then .warn
  else .normal

/-- What one 10 ms reading makes of a sensor (R198, R199): it classes the sensor, WARN while its fault stands; the tenth
implausible one in a run sets the fault. -/
def sensorAfter (x : SensorState) (reading : Int) : SensorState :=
  if reading < -40 ∨ 180 < reading then
    if x.fault then { x with reading }
    else if 9 ≤ x.implausible then { reading, thermal := .warn, fault := true, implausible := 0 }
    else { x with reading, implausible := x.implausible + 1, thermal := tableClass x.thermal reading }
  else { x with reading, implausible := 0, thermal := if x.fault then .warn else tableClass x.thermal reading }

/-- The node's class enters SHUTDOWN. -/
def entersShutdown (s t : State) : Prop := thermalClass s ≠ .shutdown ∧ thermalClass t = .shutdown

/-- A CHECK step that waited under SHUTDOWN is released (R196). -/
def releasesStep (s t : State) : Prop :=
  s.monitor.waiting = true ∧ s.monitor.position ≠ none ∧ thermalClass t ≠ .shutdown

/-- The step that waits is skipped when the wait ends: its output has been withdrawn, or the role is without it (R186). -/
def waitsInVain (s : State) : Bool :=
  s.monitor.waiting && s.monitor.position.any fun x => x ≠ .supply && x ≠ .temperature && takesNoTime s x

/-- The wait ended and the sequence went on past its step; the results given, the withdrawals and the hold of a withdrawn
bridge A stand (R145, R186, R193). -/
def WaitedInVain (s t : State) : Prop :=
  (∀ st ∈ s.monitor.position, Advanced st s t) ∧ t.monitor.withdrawn = s.monitor.withdrawn ∧
  t.monitor.holdA = s.monitor.holdA ∧
  t.monitor.record = { s.monitor.record with inProgress := t.monitor.record.inProgress }

/-- The record of a sensor's fault (R199, R200). -/
def sensorRecord (x : Sensor) (reading : Int) (s : State) : FaultRecord :=
  { kind := .thermalSensor, output := .sensor x, state := s.node.state, uptime := s.node.uptime
    detail := clampInt (-32768) 32767 reading }

/-- The record that a 10 ms reading adds of a sensor: at the tenth implausible one in a run, while no fault stands (R199). -/
def tenthRecord (x : Sensor) (reading : Int) (s : State) : List FaultRecord :=
  if (reading < -40 ∨ 180 < reading) ∧ (sensorOf x s.monitor).fault = false ∧ 9 ≤ (sensorOf x s.monitor).implausible then
    [sensorRecord x reading s]
  else []

/-- The record at entering SHUTDOWN: the sensor in it, TS1 before the die, with its reading (R198, R200). -/
def overtempRecord (s t : State) : List FaultRecord :=
  let x : Sensor := if t.monitor.ts1.thermal = .shutdown then .ts1 else .die
  if thermalClass s ≠ .shutdown ∧ thermalClass t = .shutdown then
    [{ kind := .overtemp, output := .sensor x, state := s.node.state, uptime := s.node.uptime
       detail := clampInt (-32768) 32767 (sensorOf x t.monitor).reading }]
  else []

/-- What a change of the node's thermal class does at once (R96, R146, R161, R196, R198): a raised warning lowers the
allowance to its cap; entering SHUTDOWN puts bridge B OFF and bridge A in BRAKE, or leaves it OFF in a trip wait, ends a
running, engaging or freespooling drum, and makes a driving CHECK step wait with its result NOT_TESTED; leaving SHUTDOWN
begins that step again. -/
def ThermalActs (s t : State) : Prop :=
  t.power = (if thermalClass s = .normal ∧ thermalClass t ≠ .normal ∧ allowanceCap t < s.power.allowance then
      { s.power with
        allowance := allowanceCap t, grants := divideGrants (allowanceCap t) s.power.demands }
    else s.power) ∧
  (entersShutdown s t →
    t.bridgeB.active = ⟨.off, 0⟩ ∧ t.bridgeB.next = ⟨.off, 0⟩ ∧ t.steer.loop = false ∧
    t.drive.ramped = 0 ∧ t.drive.integrator = 0 ∧ t.drive.tripWait = s.drive.tripWait ∧
    (s.drive.tripWait = none → t.bridgeA.active = ⟨safeModeA s, 0⟩ ∧ t.bridgeA.next = ⟨safeModeA s, 0⟩) ∧
    (s.drive.tripWait ≠ none → s.monitor.position = none → t.bridgeA = s.bridgeA) ∧
    t.winch.drum = (match s.winch.drum with
      | .haulIn => .braked
      | .payOut => .braked
      | .engaging => .braked
      | .freespool => .braked
      | d => d) ∧
    (s.winch.drum = .haulIn ∨ s.winch.drum = .payOut → ∀ o ∈ s.winch.op,
      t.winch.op = none ∧ t.winch.log.head?.map (fun l => (l.dir, l.reason)) = some (o.dir, .fault)) ∧
    (s.winch.drum = .engaging → t.winch.op = none ∧ t.winch.log = s.winch.log) ∧
    (s.monitor.position.any isDriving = true → s.monitor.waiting = false →
      t.monitor.waiting = true ∧ t.monitor.position = s.monitor.position.map stepPlace ∧ StepOutputs t ∧
      (if s.monitor.position = some .loadA then t.monitor.record.bridgeA = .notTested
       else t.monitor.record.bridgeB = .notTested))) ∧
  (releasesStep s t →
    t.monitor.waiting = false ∧ t.monitor.position = s.monitor.position ∧ t.monitor.stepTimer = 0) ∧
  (¬ entersShutdown s t → ¬ releasesStep s t → SameButReport { s with
    pins := t.pins, power := t.power
    monitor := { s.monitor with
      ts1 := t.monitor.ts1, die := t.monitor.die, tempTimer := t.monitor.tempTimer, faults := t.monitor.faults } } t)

/-- A CONFIG payload is a segment of its index: 0 to 7, with 8 bytes, or 7 at index 7 (R34). -/
def segmentFits : List Byte → Bool
  | [] => false
  | i :: bytes => i.toNat ≤ 7 && bytes.length = (if i.toNat = 7 then 7 else 8)

/-- The staging image after a segment that fits. -/
def stagedWith (payload : List Byte) (staging : List (Nat × List Byte)) : List (Nat × List Byte) :=
  match payload with
  | [] => staging
  | i :: bytes => stagePut i.toNat bytes staging

/-- An ANSWER placed in its slot by station `n`; a replaced one not yet committed is counted (R13, R55). -/
def answered (n : Nat) (payload : List Byte) (s : State) : State :=
  let r := s.bus.slots.answer.place (decide (lineKind s = some .answer)) { sender := n, payload }
  { s with bus := { s.bus with
      slots := { s.bus.slots with answer := r.1 }
      counters := { s.bus.counters with
        answerDrops := if r.2 then min 255 (s.bus.counters.answerDrops + 1) else s.bus.counters.answerDrops } } }

/-- How a node answers a QUERY of one code, with the result and data it gives (R55): the oldest frame is taken when it is a
QUERY of that code, answered when it is for this node, and left when it is another. -/
def AnswersQuery (code : Nat) (reply : QueryRead → List Byte) (s t : State) : Prop :=
  match headQuery s with
  | none => t = s
  | some (q, mine) =>
    if q.code ≠ code then t = s
    else match mine, stationOf s with
      | true, some n => t = settle (answered n ([byteOf q.asker, byteOf code] ++ reply q) (popQueue s))
      | _, _ => t = settle (popQueue s)

/-- The reply to an indexed query over a list, newest first: BAD_INDEX above the top index, else OK with the record, or with
no data where none is held (R56, R57). -/
def indexedReply {α : Type} (top : Nat) (l : List α) (data : α → List Byte) (q : QueryRead) : List Byte :=
  if top < q.arg then [2#8] else 0#8 :: ((l[q.arg]?).map data).getD []

/-- A slot at RESTART: only a frame on the line stays, to the end of its attempt (R22). -/
def slotRestarted (onLine : Bool) (sl : Slot) : Slot :=
  if onLine then { sl with next := none, discardDue := true }
  else { held := none, next := none, withdrawDue := false, discardDue := false }

/-- Every block at RESTART and at an accepted ASSIGN, with LISTEN entered at a position (Table 2-7, R22, R25, R33, R38, R49,
R76, R106, R127, R148, R166, R185, R201). The conflict data, the ANSWER slot and the winch log are each command's own. -/
def RestartedAt (p : Position) (s t : State) : Prop :=
  t.node = { s.node with
    state := .listen, position := some p, conflict := t.node.conflict, image := none, defaultConfig := false
    staging := [], armWait := false, assignIgnored := 0, sequence := 0, reportTimer := none, sinceReport := none
    heldEvent := false, eventDue := false, packMonitor := false, silenceTimer := some 0, defaultTimer := some 0
    noticeTimer := none } ∧
  t.bus = { s.bus with
    queue := [], counters := State.reset.bus.counters
    slots := { t.bus.slots with
      winch := slotRestarted (lineKind s = some .winch) s.bus.slots.winch
      report := slotRestarted (lineKind s = some .report) s.bus.slots.report
      beat := slotRestarted (lineKind s = some .beat) s.bus.slots.beat } } ∧
  t.peers = State.reset.peers ∧ t.intake = State.reset.intake ∧ t.power = State.reset.power ∧
  t.steer = State.reset.steer ∧ t.drive = State.reset.drive ∧
  t.winch = { State.reset.winch with
    lineOut := s.winch.lineOut, referenced := s.winch.referenced, log := t.winch.log } ∧
  t.lights = { State.reset.lights with
    beatTimer := some 0
    channels := Quad.ofLamp fun l =>
      { function := some ((lampsOfClass defaultFields.lights p).get l), current := .off, pending := none, staged := 0
        active := 0 } } ∧
  t.monitor = { State.reset.monitor with
    ts1 := s.monitor.ts1, die := s.monitor.die, tempTimer := s.monitor.tempTimer, faults := s.monitor.faults } ∧
  HeldSafe (if posCode p ≤ 6 then .brake else .off) t ∧ t.bridgeA.used = false ∧ t.bridgeB.used = false ∧
  t.pins = s.pins ∧ t.now = s.now ∧ t.pending = s.pending

/-! ## The drum (spec 08) -/

/-- What the lever asks for (R150). -/
def asks (s : State) : Option WinchDir :=
  if 100 < (presented s).lever then some .haul else if (presented s).lever < -100 then some .payOut else none

/-- A request in a direction is allowed (R155): the limit pattern formed, no SHUTDOWN, the limit of the direction not CLOSED,
and a pay-out short of the soft limit. -/
def mayRun (s : State) (dir : WinchDir) : Bool :=
  s.winch.filter0.accepted.isSome && s.winch.filter1.accepted.isSome && thermalClass s ≠ .shutdown &&
  match dir with
  | .haul => s.winch.filter0.accepted ≠ some .closed
  | .payOut => s.winch.filter1.accepted ≠ some .closed &&
    !(s.winch.referenced && (fieldsOf s).winch.maxLine ≤ s.winch.lineOut / 100)

/-- The running state of a direction. -/
def runsIn : WinchDir → DrumState
  | .haul => .haulIn
  | .payOut => .payOut

/-- The governor cap in HAUL_IN with assist (R165). -/
def capOf (s : State) (dir : WinchDir) : Option Int :=
  if dir = .haul ∧ (presented s).assist = true then
    (speedMedian s.peers).map fun m => m + (fieldsOf s).winch.assistSlack
  else none

/-- The speed target in mm/s (R150, R165). -/
def speedOf (s : State) (dir : WinchDir) : Nat :=
  let lever := rdivNat (((presented s).lever.natAbs - 100) * (fieldsOf s).winch.speedMax) 900
  match capOf s dir with
  | none => lever
  | some c => (max 0 (min (lever : Int) c)).toNat

/-- The target in cps, positive for haul and negative for pay-out (R150, R157). -/
def cpsOf (s : State) (dir : WinchDir) : Int :=
  let cps : Int := rdivNat (speedOf s dir * 100) (fieldsOf s).winch.lineMmPer100
  if dir = .haul then cps else -cps

/-- The record of an operation as it starts to run in a direction: edges of that direction count from the start (R156,
R163). -/
def turned (dir : WinchDir) (o : OperationRecord) : OperationRecord :=
  if o.dir = dir then o else { o with dir, firstEdge := o.otherEdge, otherEdge := o.firstEdge }

/-- The operation log when an operation ends in a state, for a reason (R163, Table 8-5). -/
def endedLog (op : Option OperationRecord) (reason : EndReason) (s : State) : List LogRecord :=
  match op with
  | none => s.winch.log
  | some o => ({ dir := o.dir, latency := o.firstEdge.map fun e => e - o.start, duration := min 65535 (s.now - o.start)
                 peak := o.peak, lineOut := s.winch.lineOut / 100, reason } :: s.winch.log).take 4

/-- Bridge A put into its safe hold at once: BRAKE, or the hold of a withdrawal (R142, R158). -/
def BrakedAtOnce (s t : State) : Prop :=
  t.bridgeA.active = ⟨safeModeA s, 0⟩ ∧ t.bridgeA.next = ⟨safeModeA s, 0⟩ ∧ t.drive.ramped = 0 ∧ t.drive.integrator = 0

/-- A step that may change the drum state shows the change (R43, R164): a WINCH frame of the new state, with its timer
started, and the immediate-report event; with no change neither. -/
def DrumShown (s t : State) : Prop :=
  if t.winch.drum = s.winch.drum then t.bus.slots.winch = s.bus.slots.winch ∧ t.winch.winchTimer = s.winch.winchTimer
  else
    t.winch.winchTimer = some 0 ∧
    (∀ n ∈ stationOf s, t.bus.slots.winch =
      (s.bus.slots.winch.place (decide (lineKind s = some .winch)) { sender := n, payload := winchPayload t }).1) ∧
    (eventSelected s .drumChange = true → reportsNow s = true →
      t.node.sequence = (s.node.sequence + 1) % 16 ∨ t.node.heldEvent = true)

/-! ## The lamps (spec 09) -/

/-- The beats of a super-cycle at which a pattern is on (Table 9-3). -/
def onBeats (p : Pattern) (epoch : Nat) : List Nat :=
  let half := [0, 1, 2, 3, 4, 5, 6, 7, 8, 9, 10, 11, 12, 13, 14, 15]
  match p with
  | .steady => half ++ half.map (· + 16)
  | .indicate => half
  | .hazard => half
  | .failsafe => [0, 1, 2, 3, 8, 9, 10, 11, 16, 17, 18, 19, 24, 25, 26, 27]
  | .lowbat => if epoch % 2 = 1 then [0, 1, 4, 5] else []
  | .cutoff => if epoch % 2 = 0 then [0, 1] else []
  | .conflict => half.map (2 * ·)
  | .ready => [0, 1]

/-- A channel of the required class (R182). -/
def requiredLamp (s : State) (l : Lamp) : Bool :=
  [some LampFunction.head, some .marker, some .tailbrake, some .indicator, some .reverse].contains (functionOf s l)

/-- A lit step dimmed by the grant of its lamp class, in SAFE, RUN and FAILSAFE (R182). -/
def dimmedStep (s : State) (l : Lamp) (level : Nat) : Nat :=
  let required := requiredLamp s l
  let grant := if required then s.power.grants.required else s.power.grants.aux
  let demand := if required then s.power.demands.required else s.power.demands.aux
  if (s.node.state = .safe ∨ s.node.state = .run ∨ s.node.state = .failsafe) ∧ grant < demand then level * grant / demand
  else level

/-- The step of a display at a beat of an epoch (R173, R182). -/
def shownStep (s : State) (l : Lamp) (d : Display) (beat epoch : Nat) : Nat :=
  match d with
  | .off => dimmedStep s l 0
  | .show p level => dimmedStep s l (if beat ∈ onBeats p epoch then level else 0)

/-- Two displays of the same steps (R173): a change between INDICATE and HAZARD is no change. -/
def samePattern : Display → Display → Bool
  | .off, .off => true
  | .show p _, .show q _ => p = q || ((p = .indicate || p = .hazard) && (q = .indicate || q = .hazard))
  | _, _ => false

/-- The current and the pending display under a wanted one (R175). -/
def resolved (wanted current : Display) : Display × Option Display :=
  if samePattern wanted current = true then (wanted, none)
  else match wanted with
    | .off => (wanted, none)
    | .show .steady _ => (wanted, none)
    | .show _ _ => (current, some wanted)

/-- At a super-cycle start the pending display is current (R175). -/
def started (x : Display × Option Display) : Display × Option Display := (x.2.getD x.1, none)

/-- The brake hold at a beat event or restart (R180). -/
def brakeHoldAfter (s : State) : Nat :=
  if s.node.state = .safe ∨ s.node.state = .run ∨ s.node.state = .failsafe then
    if s.drive.braking = true ∨ s.peers.table.any (fun e => e.age ≤ 60 && e.braking) then 20 else s.lights.brakeHold - 1
  else 0

/-- What a beat event makes of a channel (R174, R175): the staged step is active; the wanted display is resolved and its step
at the next beat staged, after beat 31 with the pending display current. A display still pending when the cycle wraps, which
CUTOFF entry left, is current from that wrap on. -/
def BeatenChannel (s t : State) (l : Lamp) : Prop :=
  let c := s.lights.channels.get l
  let k := t.lights.channels.get l
  let late := 31 ≤ s.lights.beat ∧ c.pending ≠ none ∧ functionOf s l ≠ some .off
  let shown := if late then c.pending.getD .off else c.current
  let next := resolved (wantedDisplay t l) shown
  k.function = c.function ∧
  k.active = (if late then shownStep t l shown 0 t.lights.epoch else c.staged) ∧
  if t.lights.beat = 31 then
    (k.current, k.pending) = started next ∧ k.staged = shownStep t l (started next).1 0 ((t.lights.epoch + 1) % 256)
  else (k.current, k.pending) = next ∧ k.staged = shownStep t l next.1 (t.lights.beat + 1) t.lights.epoch

/-- A restart of the super-cycle (R171, R172, R174): beat 0 with the beat timer started, the wanted displays resolved and
current, their steps of beat 0 active and of beat 1 staged. -/
def CycleRestarted (s t : State) : Prop :=
  t.lights.beat = 0 ∧ t.lights.beatTimer = some 0 ∧ t.lights.brakeHold = brakeHoldAfter s ∧
  ∀ l : Lamp,
    let c := s.lights.channels.get l
    let k := t.lights.channels.get l
    let now := (started (resolved (wantedDisplay t l) c.current)).1
    k = { function := c.function, current := now, pending := none
          active := shownStep t l now 0 t.lights.epoch, staged := shownStep t l now 1 t.lights.epoch }

/-! ## The demands of a budget tick (R97, R98) -/

/-- The demand of a bridge: 0 when withdrawn or of no role; the averaged current and 10 dA when its ceiling cut it since the
tick before; the averaged current when it was in a mode other than OFF and BRAKE since then; else 0 (R97). -/
def demandOfBridge (s : State) (withdrawn limited : Bool) (b : Bridge) (current : Nat) : Nat :=
  if (roleOf s ≠ .corner ∧ roleOf s ≠ .winch) ∨ withdrawn = true then 0
  else if limited then min 1000 (min 1000 current + 10)
  else if b.used = true ∨ b.active.mode = .fwd ∨ b.active.mode = .rev ∨ b.active.mode = .drag then min 1000 current
  else 0

/-- The demand of a lamp: its rating at its peak level, 0 while not rated, off, withdrawn or absent (R98). -/
def demandOfLamp (s : State) (l : Lamp) : Nat :=
  let peak := match functionOf s l with
    | none => 0
    | some .off => 0
    | some f =>
      if f = .tailbrake ∧ 0 < s.lights.brakeHold then 255
      else match (s.lights.channels.get l).current with
        | .off => 0
        | .show _ level => level
  (s.monitor.ratings.get l).getD 0 * peak / 255

/-- The four demands of a tick (R97, R98). -/
def demandsAt (r : BudgetReadings) (s : State) : Consumers :=
  let corner := roleOf s = .corner
  let lamps := fun (required : Bool) => ([Lamp.l0, .l1, .l2, .l3].filter fun l => requiredLamp s l = required).map
    (demandOfLamp s)
  { bridgeA := demandOfBridge s s.monitor.withdrawn.bridgeA (if corner then s.drive.limited else s.winch.drumLimited)
      s.bridgeA r.isa
    bridgeB := demandOfBridge s s.monitor.withdrawn.bridgeB
      (if corner then s.steer.limited else s.winch.solenoidLimited) s.bridgeB r.isb
    required := min 1000 (lamps true).sum
    aux := min 1000 (lamps false).sum }

/-! ## Outputs (R27, R102) -/

/-- The CHECK steps that drive bridge B (R27). -/
def drivesBStep : Option CheckStep → Prop
  | some .loadB => True
  | some .sweepLeft => True
  | some .sweepRight => True
  | some .sweepReturn => True
  | _ => False

/-- The states in which a bridge may be driven outside CHECK; in FAILSAFE bridge A brakes from the next boundary on and
bridge B runs its loop in stage 1 (R27, R69). -/
def mayDrive (s : State) : Prop := s.node.state = .run ∨ s.node.state = .failsafe

/-- The fixed hold of a withdrawn bridge A is BRAKE or OFF (R145, R193). -/
def HoldIsSafe (s : State) : Prop := ∀ m, s.monitor.holdA = some m → m = .brake ∨ m = .off

/-- The bridges are driven only where R27 lets them: a CHECK step is under way in CHECK alone; bridge A leaves OFF and
BRAKE, and bridge B leaves OFF, only in RUN, FAILSAFE or a CHECK step that drives that bridge. -/
structure OutputsInv (s : State) : Prop where
  stepInCheck : s.monitor.position.isSome → s.node.state = .check
  holdSafe : HoldIsSafe s
  nextA : drivesMode s.bridgeA.next.mode = true → mayDrive s ∨ s.monitor.position = some .loadA
  activeA : drivesMode s.bridgeA.active.mode = true → mayDrive s ∨ s.monitor.position = some .loadA
  nextB : s.bridgeB.next.mode ≠ .off → mayDrive s ∨ drivesBStep s.monitor.position
  activeB : s.bridgeB.active.mode ≠ .off → mayDrive s ∨ drivesBStep s.monitor.position

/-- A channel that may be lit in CUTOFF (R102). -/
def litInCutoff (c : Channel) : Prop := c.function = some .marker ∨ c.function = some .tailbrake

/-- In CUTOFF a channel of another function is dark and stays so (R102, R176). -/
def CutoffDarkInv (s : State) : Prop :=
  s.node.state = .cutoff → ∀ l, ¬ litInCutoff (s.lights.channels.get l) →
    (s.lights.channels.get l).current = .off ∧ (s.lights.channels.get l).pending = none ∧
    (s.lights.channels.get l).staged = 0 ∧ (s.lights.channels.get l).active = 0

/-! ## Counts and lists -/

/-- The nine counters (Table 1-9). -/
def counterList (c : BusCounters) : List Nat :=
  [c.crcErrors, c.framingErrors, c.formatErrors, c.overruns, c.collisions, c.lineFaults, c.txDrops, c.answerDrops,
    c.cfgIgnored]

/-- The widths the manual gives: nine 8-bit counters (R21), 8 queued frames (R10), the line-fault run to 16 (R18),
assign_ignored to 255 (R33), uptime to 16777215 (R39), the sequence to 15 (R44), 8 fault records (R200), 4 log records
(R163). -/
structure BoundsInv (s : State) : Prop where
  counters : ∀ n ∈ counterList s.bus.counters, n ≤ 255
  queue : s.bus.queue.length ≤ 8
  lineFaultRun : s.bus.lineFaultRun ≤ 16
  assignIgnored : s.node.assignIgnored ≤ 255
  uptime : s.node.uptime ≤ 16777215
  sequence : s.node.sequence ≤ 15
  faults : s.monitor.faults.length ≤ 8
  log : s.winch.log.length ≤ 4

/-! ## The transmit set (R12 to R17) -/

/-- A slot stands in one of the states of Table 1-5: a successor only behind a held frame, a backoff only on a committed
frame, an attempt number of 0 to 7, and 0 until the frame is committed. -/
structure SlotInv (sl : Slot) : Prop where
  nextBehindHeld : sl.next.isSome → sl.held.isSome
  backoffCommitted : ∀ h, sl.held = some h → h.backoff.isSome → h.committed = true
  attemptsRange : ∀ h, sl.held = some h → h.attempts ≤ 7
  freshUncommitted : ∀ h, sl.held = some h → h.committed = false → h.attempts = 0

/-- The transmit set: every slot in one of its states, and a frame on the line is the held frame of its slot. -/
structure TransmitInv (s : State) : Prop where
  slots : ∀ k, SlotInv (s.bus.slots.get k)
  onLine : ∀ k, lineKind s = some k → (s.bus.slots.get k).held.isSome

/-! ## The peer table (R45) -/

/-- What the receive queue and the peer table hold: senders of the kind's class, the own-station mark on this node's own
number alone, and a table in strictly ascending station order, of stations 1 to 8 but this node's own. A node without a
station number has an empty table, and in STRAP the queue and the table are empty. -/
structure PeerInv (s : State) : Prop where
  queueClass : ∀ f ∈ s.bus.queue, senderAllowed f.kind f.sender = true
  queueOwn : ∀ f ∈ s.bus.queue, f.own = decide (stationOf s = some f.sender)
  ascending : (s.peers.table.map PeerEntry.station).Pairwise (· < ·)
  range : ∀ e ∈ s.peers.table, 1 ≤ e.station ∧ e.station ≤ 8
  notOwn : ∀ e ∈ s.peers.table, stationOf s ≠ some e.station
  noStation : stationOf s = none → s.peers.table = []
  strapEmpty : s.node.state = .strap → s.bus.queue = [] ∧ s.peers.table = []

/-! ## The allowance and the grants (R95, R96, R99) -/

/-- The sum of the four grants. -/
def grantSum (c : Consumers) : Nat := c.bridgeB + c.required + c.bridgeA + c.aux

/-- The grants never sum to more than the allowance (R99), which is never above the cap in force and is 0 outside SAFE, RUN
and FAILSAFE (R96). -/
structure AllowanceInv (s : State) : Prop where
  grants : grantSum s.power.grants ≤ s.power.allowance
  cap : s.power.allowance ≤ allowanceCap s
  zeroOutside : isServing s.node.state = false → s.power.allowance = 0

/-! ## Commands, duties and steering -/

/-- A per-mille command field. -/
def inPerMille (x : Int) : Prop := -1000 ≤ x ∧ x ≤ 1000

/-- The command record holds throttle, steer and lever of -1000 to 1000 (Table 4-1, R62). -/
structure CommandInv (s : State) : Prop where
  throttle : inPerMille s.intake.record.throttle
  steer : inPerMille s.intake.record.steer
  lever : inPerMille s.intake.record.lever

/-- Every duty lies in 0 to 1000, as do the current ceilings, and both integrators lie in -1000 to 1000. -/
structure DutyInv (s : State) : Prop where
  nextA : s.bridgeA.next.duty ≤ 1000
  activeA : s.bridgeA.active.duty ≤ 1000
  nextB : s.bridgeB.next.duty ≤ 1000
  activeB : s.bridgeB.active.duty ≤ 1000
  steerCeiling : s.steer.ceiling ≤ 1000
  driveCeiling : s.drive.ceiling ≤ 1000
  drumCeiling : s.winch.drumCeiling ≤ 1000
  solenoidCeiling : s.winch.solenoidCeiling ≤ 1000
  driveIntegrator : inPerMille s.drive.integrator
  drumIntegrator : inPerMille s.winch.integrator

/-- The geometry target, the presented target and the actuator target stay within the limit of the node's axle; with no image
or no position all three are 0 (R116, R121, R127). A node has no position in STRAP and has an image beyond LISTEN. -/
structure SteerInv (s : State) : Prop where
  target : (s.steer.geometry.target.natAbs : Int) ≤ axleLimit s
  presented : (s.steer.presented.natAbs : Int) ≤ axleLimit s
  actuator : (s.steer.actuator.natAbs : Int) ≤ axleLimit s
  atRest : s.node.image = none ∨ s.node.position = none →
    s.steer.geometry.target = 0 ∧ s.steer.presented = 0 ∧ s.steer.actuator = 0
  strapBare : s.node.state = .strap → s.node.position = none
  imageless : s.node.image = none →
    s.node.state = .strap ∨ s.node.state = .listen ∨ s.node.state = .cutoff ∨ s.node.state = .conflict

/-- The wheel figures are those of the image in force, on a corner alone (R128, R147); a node in STRAP has no position. -/
structure FiguresInv (s : State) : Prop where
  figures : s.drive.figures = if roleOf s = .corner then s.node.image.map (fun i => wheelFigures i.fields.drive) else none
  strapBare : s.node.state = .strap → s.node.position = none ∧ s.node.image = none

/-! ## The ranges of an image in force (R36, Table 2-5) -/

/-- The ranges of the vehicle, power and steering fields, in working units. -/
structure PowerRanges (i : Image) : Prop where
  expectedNodes : 1 ≤ i.vehicle.expectedNodes ∧ i.vehicle.expectedNodes ≤ 8
  axleCount : i.vehicle.axleCount = 2 ∨ i.vehicle.axleCount = 3
  cellCount : 2 ≤ i.vehicle.cellCount ∧ i.vehicle.cellCount ≤ 4
  winchPosition : i.vehicle.winchPosition = 0 ∨ i.vehicle.winchPosition = 7 ∨ i.vehicle.winchPosition = 8
  packMonitorPosition : i.vehicle.packMonitorPosition ≤ 8
  packLimit : 50 ≤ i.power.packLimit ∧ i.power.packLimit ≤ 1000
  reserve : i.power.reserve ≤ 100
  nodeCap : 20 ≤ i.power.nodeCap ∧ i.power.nodeCap ≤ 500
  floor : i.power.floor ≤ 50
  rInt : 1 ≤ i.power.rInt ∧ i.power.rInt ≤ 200
  thresholds : ∀ v ∈ [i.power.derate, i.power.limp, i.power.cutoff, i.power.hardMin], 2500 ≤ v ∧ v ≤ 4500
  hysteresis : 10 ≤ i.power.hysteresis ∧ i.power.hysteresis ≤ 300
  imbalanceLimit : 50 ≤ i.power.imbalanceLimit ∧ i.power.imbalanceLimit ≤ 500

/-- The ranges of the steering, drive, lights and winch fields. -/
structure MotionRanges (i : Image) : Prop where
  offsets : ∀ x ∈ [i.steer.xFront, i.steer.xMid, i.steer.xRear], -600 ≤ x ∧ x ≤ 600
  halfTrack : 40 ≤ i.steer.halfTrack ∧ i.steer.halfTrack ≤ 400
  limits : ∀ v ∈ [i.steer.limFront, i.steer.limMid, i.steer.limRear], v ≤ 450
  steerSlew : 1 ≤ i.steer.steerSlew ∧ i.steer.steerSlew ≤ 50
  steerStop : 100 ≤ i.steer.steerStop ∧ i.steer.steerStop ≤ 500
  kpS : 1 ≤ i.steer.kpS ∧ i.steer.kpS ≤ 255
  steerDeadband : 1 ≤ i.steer.steerDeadband ∧ i.steer.steerDeadband ≤ 30
  wheelDiameter : 40 ≤ i.drive.wheelDiameter ∧ i.drive.wheelDiameter ≤ 250
  countsPerRev : 12 ≤ i.drive.countsPerRev ∧ i.drive.countsPerRev ≤ 4096
  vMax : 100 ≤ i.drive.vMax ∧ i.drive.vMax ≤ 5000
  gains : ∀ v ∈ [i.drive.kf, i.drive.kp, i.drive.ki], v ≤ 255
  throttleRamp : 1 ≤ i.drive.throttleRamp ∧ i.drive.throttleRamp ≤ 200
  throttleDeadband : 10 ≤ i.drive.throttleDeadband ∧ i.drive.throttleDeadband ≤ 200
  dragBrake : i.drive.dragBrake ≤ 100
  deadTime : 200 ≤ i.drive.deadTime ∧ i.drive.deadTime ≤ 1600
  failsafeTimeout : 100 ≤ i.drive.failsafeTimeout ∧ i.drive.failsafeTimeout ≤ 1000
  markerLevel : i.lights.markerLevel ≤ 255
  maxLine : 1000 ≤ i.winch.maxLine ∧ i.winch.maxLine ≤ 30000
  stall : 10 ≤ i.winch.stall ∧ i.winch.stall ≤ 255
  speedMax : 50 ≤ i.winch.speedMax ∧ i.winch.speedMax ≤ 1000
  lineMmPer100 : 1 ≤ i.winch.lineMmPer100 ∧ i.winch.lineMmPer100 ≤ 255
  assistRatio : 50 ≤ i.winch.assistRatio ∧ i.winch.assistRatio ≤ 150
  assistSlack : i.winch.assistSlack ≤ 255

/-- The four relations of R36, in working units. -/
structure ImageRelations (i : Image) : Prop where
  limp : i.power.limp ≤ i.power.derate
  cutoff : i.power.cutoff ≤ i.power.limp
  hardMin : i.power.hardMin ≤ i.power.cutoff
  floor : i.power.floor ≤ i.power.nodeCap * 60 / 100

/-- The image in force, if there is one, lies in its ranges and meets the relations. -/
def ImageInv (s : State) : Prop :=
  ∀ i, s.node.image = some i → PowerRanges i.fields ∧ MotionRanges i.fields ∧ ImageRelations i.fields

end Sys2Proof.Safety
end

