-- ==== Sys2Proof/Certificates/Slice0/Obligations.lean ====
section
/-! DEFINITION. The statements for the provers. A statement gives an equation or the fields of the next state; a part
written as t = { s with … } is the frame: every other field is unchanged. Where a step ends by settling its events (R43),
the next state is settle u, and the statement speaks of u; O23 says what settling does. -/

section

open Sys2Proof Sys2Proof.Machine Sys2Proof.Safety

/-! ## The step, the resets and the whole machine -/

/-- O1. For every command c and every state, a step with c at the front of the queue is exec of c on the state with
the queue's rest. -/
def Obligations.StepRunsFrontCommand : Prop :=
  ∀ (c : Instr) (rest : List Instr) (s : State), step (s.setPending (c :: rest)) = exec c (s.setPending rest)

/-- O2. The model's choice, log 1: a step on an empty queue is one millisecond without a command. The clock, the ages
of the peers and of the winch link, the supervisor's and the beat timer rise by one, the link age to 10000 at most;
pins, bridges, node state, image, receive queue, counters, check record, fault list and drum stand. -/
def Obligations.EmptyQueuePassesOneMillisecond : Prop :=
  ∀ s : State, s.pending = [] → ∃ t, step s = .next t ∧ t.now = s.now + 1 ∧
    t.peers.table = s.peers.table.map (fun e => { e with age := e.age + 1 }) ∧
    t.peers.link = s.peers.link.map (fun l => { l with age := l.age + 1 }) ∧
    t.intake = { s.intake with linkAge := s.intake.linkAge.map (bumpTo 10000) } ∧
    t.power = { s.power with timer := s.power.timer + 1 } ∧
    t.lights = { s.lights with beatTimer := s.lights.beatTimer.map (· + 1) } ∧
    t.pins = s.pins ∧ t.bridgeA = s.bridgeA ∧ t.bridgeB = s.bridgeB ∧ t.node.state = s.node.state ∧
    t.node.image = s.node.image ∧ t.bus.queue = s.bus.queue ∧ t.bus.counters = s.bus.counters ∧
    t.monitor.record = s.monitor.record ∧ t.monitor.faults = s.monitor.faults ∧ t.winch.drum = s.winch.drum

/-- O3. Every command in every state answers a next state, and leaves the waiting commands, the clock and the die
serial as they are. Every command but UPTIME_TICK and POWER_ON_RESET, RESTART and an accepted ASSIGN among them,
leaves the uptime as it is. The model's choices in it: logs 1, 3. -/
def Obligations.EveryCommandGoesOn : Prop :=
  ∀ (c : Instr) (s : State), ∃ t, exec c s = .next t ∧ t.pending = s.pending ∧ t.now = s.now ∧
    t.node.serial = s.node.serial ∧ (c ≠ .uptimeTick → c ≠ .powerOnReset → t.node.uptime = s.node.uptime)

/-- O4. POWER_ON_RESET acts the same way in every state: the node enters STRAP without position, image, staging image,
conflict data and flags, uptime 0, the serial kept; bus port, peers, intake, supervisor, bridges, steering, drive,
winch, lamps and output monitor take their reset states, and the pins stand. The reset state: the receiver hunts with
its runs at 0, no attempt, no break, empty slots and queue, counters 0, no BUS_FAULT; nothing bound, the record
neutral, FRONT and lights OFF; no calibration, ramp 0, ceiling 1000, drum BRAKED, beat and epoch 0, both bridges OFF,
level NORMAL, allowance 0, no peer, no reserve, no fault, no waiting command. The model's choices in it: logs 5, 6,
50. -/
def Obligations.PowerOnResetClearsEveryBlock : Prop :=
  (∀ s : State, ∃ t, exec .powerOnReset s = .next t ∧
    t.node.state = .strap ∧ t.node.position = none ∧ t.node.image = none ∧ t.node.staging = [] ∧
    t.node.conflict = none ∧ t.node.assignIgnored = 0 ∧ t.node.defaultConfig = false ∧ t.node.armWait = false ∧
    t.node.reportTimer = none ∧ t.node.heldEvent = false ∧ t.node.sequence = 0 ∧ t.node.uptime = 0 ∧
    t.node.serial = s.node.serial ∧ t.bus = State.reset.bus ∧ t.peers = State.reset.peers ∧
    t.intake = State.reset.intake ∧ t.power = State.reset.power ∧ t.bridgeA = State.reset.bridgeA ∧
    t.bridgeB = State.reset.bridgeB ∧ t.steer = State.reset.steer ∧ t.drive = State.reset.drive ∧
    t.winch = State.reset.winch ∧ t.lights = State.reset.lights ∧ t.monitor = State.reset.monitor ∧
    t.pins = s.pins ∧ t.now = s.now ∧ t.pending = s.pending) ∧
  (let r := State.reset
  r.bus.rx.state = .hunt ∧ r.bus.rx.recessiveRun = 0 ∧ r.bus.rx.dominantRun = 0 ∧ r.bus.tx.attempt = none ∧
  r.bus.tx.breakLeft = none ∧ (∀ k, (r.bus.slots.get k).held = none ∧ (r.bus.slots.get k).next = none) ∧
  r.bus.queue = [] ∧ (∀ n ∈ counterList r.bus.counters, n = 0) ∧ r.bus.lineFaultRun = 0 ∧ r.bus.busFault = false ∧
  r.intake.bound = none ∧ r.intake.marker = none ∧ r.intake.linkAge = none ∧ r.intake.stage = .none ∧
  r.intake.record.throttle = 0 ∧ r.intake.record.steer = 0 ∧ r.intake.record.lever = 0 ∧
  r.intake.record.steerMode = .front ∧ r.intake.record.lights = .off ∧ r.intake.record.hazard = false ∧
  r.intake.record.assist = false ∧ r.intake.record.freespool = false ∧
  r.steer.mode = .front ∧ r.steer.pendingMode = none ∧ r.steer.calibration = none ∧ r.drive.ramped = 0 ∧
  r.drive.ceiling = 1000 ∧ r.winch.drum = .braked ∧ r.lights.beat = 0 ∧ r.lights.epoch = 0 ∧
  r.bridgeA.active.mode = .off ∧ r.bridgeB.active.mode = .off ∧ r.power.level = .normal ∧ r.power.allowance = 0 ∧
  r.peers.table = [] ∧ r.peers.reserve = 0 ∧ r.peers.link = none ∧ r.monitor.faults = [] ∧ r.pending = [])

/-- O5. From a state that meets the outputs' invariant: in CUTOFF every command but POWER_ON_RESET leaves the node
there; in CONFLICT the node stays, or enters CUTOFF, or enters LISTEN by ASSIGN, or STRAP by POWER_ON_RESET. -/
def Obligations.CutoffAndConflictEndAsRuled : Prop :=
  (∀ (c : Instr) (s t : State), OutputsInv s → s.node.state = .cutoff → c ≠ .powerOnReset → exec c s = .next t →
    t.node.state = .cutoff) ∧
  (∀ (c : Instr) (s t : State), OutputsInv s → s.node.state = .conflict → exec c s = .next t →
    t.node.state = .conflict ∨ t.node.state = .cutoff ∨ (t.node.state = .listen ∧ c = .assign) ∨
    (t.node.state = .strap ∧ c = .powerOnReset))

/-- O6. A node that comes into RUN did so by COMMAND, from SAFE or FAILSAFE, and then holds a throttle below its
deadband and a lever below 100, with the ramp at 0. -/
def Obligations.OnlyANeutralCommandEntersRun : Prop :=
  ∀ (c : Instr) (s t : State), s.node.state ≠ .run → exec c s = .next t → t.node.state = .run →
    c = .command ∧ (s.node.state = .safe ∨ s.node.state = .failsafe) ∧
    t.intake.record.throttle.natAbs < (fieldsOf s).drive.throttleDeadband ∧ t.intake.record.lever.natAbs < 100 ∧
    t.drive.ramped = 0

/-- O7. Every step keeps the outputs' invariant: a CHECK step is under way in CHECK alone, a withdrawn bridge A is
held in BRAKE or OFF, bridge A drives and bridge B leaves OFF only in RUN, FAILSAFE or a CHECK step that drives that
bridge. Every step keeps a channel of a function other than MARKER and TAILBRAKE dark in CUTOFF. -/
def Obligations.StepKeepsOutputsInv : Prop :=
  (∀ s t : State, OutputsInv s → step s = .next t → OutputsInv t) ∧
  (∀ s t : State, CutoffDarkInv s → step s = .next t → CutoffDarkInv t)

/-- O8. The reset state meets the outputs, darkness, bounds, transmit, peer, allowance, command, duty, steering and
image invariants that every step keeps. The model's choices in it: log 5. -/
def Obligations.ResetMeetsTheInvariants : Prop :=
  OutputsInv State.reset ∧ CutoffDarkInv State.reset ∧ BoundsInv State.reset ∧ TransmitInv State.reset ∧
  PeerInv State.reset ∧ AllowanceInv State.reset ∧ CommandInv State.reset ∧ DutyInv State.reset ∧
  SteerInv State.reset ∧ ImageInv State.reset

/-- O9. Every step keeps the nine counters within 255, the queue within 8 frames, the line-fault run within 16,
assign_ignored within 255, the uptime within 16777215, the sequence within 15, the fault list within 8 and the winch
log within 4; and every slot in a state of Table 1-5, with a frame on the line held by its slot. -/
def Obligations.StepKeepsBoundsAndSlots : Prop :=
  (∀ s t : State, BoundsInv s → step s = .next t → BoundsInv t) ∧
  (∀ s t : State, TransmitInv s → step s = .next t → TransmitInv t)

/-- O10. Every step keeps in the queue only senders of their kind's class, marked exactly when they carry this node's
number, and a peer table in ascending order of stations 1 to 8 without this node's own; the table is empty without a
station number, and the queue too in STRAP. -/
def Obligations.StepKeepsPeerTable : Prop :=
  ∀ s t : State, PeerInv s → step s = .next t → PeerInv t

/-- O11. Every step keeps the sum of the grants within the allowance, the allowance within the cap in force, and the
allowance 0 outside SAFE, RUN and FAILSAFE. -/
def Obligations.StepKeepsAllowance : Prop :=
  ∀ s t : State, AllowanceInv s → step s = .next t → AllowanceInv t

/-- O12. Every step keeps throttle, steer and lever of the record within -1000 to 1000, every duty and every current
ceiling within 0 to 1000, and both integrators within -1000 to 1000. -/
def Obligations.StepKeepsDutiesAndCommands : Prop :=
  ∀ s t : State, CommandInv s → DutyInv s → step s = .next t → CommandInv t ∧ DutyInv t

/-! ## Frames and the bus port (spec 01) -/

/-- O13. For every kind, every sender of its class and every payload of at most 12 bytes, the bytes that the node
sends are judged valid, with that kind, sender and payload. -/
def Obligations.FrameRoundTrip : Prop :=
  ∀ (kind : FrameKind) (sender : Nat) (payload : List Byte), payload.length ≤ 12 → senderAllowed kind sender = true →
    judgeFrame (frameBytes kind sender payload) = .valid kind sender payload

/-- O14. A frame of its length is CRC-wrong, else of an unknown kind or a wrong sender class a format error, else
valid with its kind, sender and payload; one of another length, or of length above 12, is a format error. The CRC
differs whenever exactly one byte differs, and its check value is 0xB4. -/
def Obligations.FrameChecksAndCrc : Prop :=
  ((∀ (h l crc : Byte) (payload : List Byte), payload.length = l.toNat → l.toNat ≤ 12 →
    judgeFrame (h :: l :: (payload ++ [crc])) =
      if crc8 (h :: l :: payload) ≠ crc then .crcError
      else match kindOfCode (h.toNat / 16) with
        | none => .formatError
        | some kind =>
          if senderAllowed kind (h.toNat % 16) then .valid kind (h.toNat % 16) payload else .formatError) ∧
  (∀ (h l : Byte) (rest : List Byte), 12 < l.toNat ∨ rest.length ≠ l.toNat + 1 →
    judgeFrame (h :: l :: rest) = .formatError)) ∧
  ((∀ (before after : List Byte) (x y : Byte), x ≠ y → crc8 (before ++ x :: after) ≠ crc8 (before ++ y :: after)) ∧
  crc8 [0x31#8, 0x32#8, 0x33#8, 0x34#8, 0x35#8, 0x36#8, 0x37#8, 0x38#8, 0x39#8] = 0xB4#8)

/-- O15. A byte takes ten bit times: a dominant start bit, its bits from the highest, a recessive stop bit. A frame of
n payload bytes takes 10 x (n + 3) + 2 bit times, and no run of dominant bit times in it reaches ten. -/
def Obligations.FrameOnTheLine : Prop :=
  (∀ b : Byte, (byteLine b).length = 10 ∧ (byteLine b).head? = some .dominant ∧
    (byteLine b).getLast? = some .recessive ∧
    ∀ i : Nat, i < 8 → (byteLine b)[i + 1]? = some (if b.getLsbD (7 - i) then .recessive else .dominant)) ∧
  (∀ (kind : FrameKind) (sender : Nat) (payload : List Byte),
    (frameLine (frameBytes kind sender payload)).length = 10 * (payload.length + 3) + 2) ∧
  (∀ bytes : List Byte, ¬ List.replicate 10 LineLevel.dominant <:+: frameLine bytes)

/-- O16. BUS_IDLE sets the recessive run to 12, the dominant run to 0 and ends a run of the own break, and moves a
receiver in HUNT to READY; FRAME_START sets the recessive run to 0 and the dominant run to 1 and begins a reception in
READY, not exempt and no echo. Nothing else changes. RECEPTION_FAILED in FRAME: the receiver hunts, its runs as the
failing bit leaves them, no longer exempt and no echo, and the counter of the failing row of Table 1-3 rises, to 255
at most, unless the reception is exempt or the failing bit aborts an own attempt on the line, as every one but the
header's stop bit does; nothing else changes. Outside FRAME there is no reception to fail. The model's choices in it:
logs 3, 8, 9. -/
def Obligations.ReceptionsStartAndFail : Prop :=
  (∀ (s : State), ∃ t, exec .busIdle s = .next t ∧
      (t = { s with bus := { s.bus with rx := { s.bus.rx with
        recessiveRun := 12, dominantRun := 0, ownBreak := false
        state := if s.bus.rx.state = .hunt then .ready else s.bus.rx.state } } })) ∧
  (∀ (s : State), ∃ t, exec .frameStart s = .next t ∧
      (t = { s with bus := { s.bus with rx :=
        if s.bus.rx.state = .ready then
          { state := .frame, recessiveRun := 0, dominantRun := 1, exempt := false, echo := false, ownBreak := false }
        else { s.bus.rx with recessiveRun := 0, dominantRun := 1 } } })) ∧
  (∀ (how : RxFail) (s : State), ∃ t, exec (.receptionFailed how) s = .next t ∧
      (if s.bus.rx.state = .frame then
        t = { s with bus := { s.bus with
          rx := { s.bus.rx with
            state := .hunt, exempt := false, echo := false
            recessiveRun := match how with
              | .startHeaderOrLength => 2
              | .startPayloadOrCrc => 2
              | .lengthAbove12 => 1
              | .headerStopBit => 0
              | .stopBit => 0
              | .endBit => 0
            dominantRun := if how = .headerStopBit ∨ how = .stopBit ∨ how = .endBit then 1 else 0 }
          counters := t.bus.counters } } ∧
        t.bus.counters =
          if s.bus.rx.exempt = true ∨ (s.bus.tx.attempt ≠ none ∧ how ≠ .headerStopBit) then s.bus.counters
          else if how = .startPayloadOrCrc ∨ how = .lengthAbove12 then
            { s.bus.counters with formatErrors := min 255 (s.bus.counters.formatErrors + 1) }
          else { s.bus.counters with framingErrors := min 255 (s.bus.counters.framingErrors + 1) }
      else t = s))

/-- O17. FRAME_RECEIVED in FRAME: the receiver is READY; a frame that fails a check counts there unless the reception
is exempt; a valid frame is discarded in STRAP, as own echo or as an ANSWER, and otherwise joins the newest end of the
queue, marked when its sender is the node's own number, or counts an overrun when eight frames are held. The model
takes a frame that completes together with an own attempt as echo (log 10). Nothing else changes. The model's choices
in it: logs 3, 8, 10. -/
def Obligations.ReceivedFrameIsDisposedOf : Prop :=
  ∀ (bytes : List Byte) (s : State), ∃ t, exec (.frameReceived bytes) s = .next t ∧
      (if s.bus.rx.state = .frame then
        t = { s with bus := { s.bus with
          rx := { s.bus.rx with state := .ready, recessiveRun := 2, dominantRun := 0, exempt := false, echo := false }
          queue := t.bus.queue, counters := t.bus.counters } } ∧
        match judgeFrame bytes with
        | .formatError => t.bus.queue = s.bus.queue ∧ t.bus.counters =
            if s.bus.rx.exempt then s.bus.counters
            else { s.bus.counters with formatErrors := min 255 (s.bus.counters.formatErrors + 1) }
        | .crcError => t.bus.queue = s.bus.queue ∧ t.bus.counters =
            if s.bus.rx.exempt then s.bus.counters
            else { s.bus.counters with crcErrors := min 255 (s.bus.counters.crcErrors + 1) }
        | .valid kind sender payload =>
          if s.node.state = .strap ∨ s.bus.rx.echo = true ∨ s.bus.tx.attempt ≠ none ∨ kind = .answer then
            t.bus.queue = s.bus.queue ∧ t.bus.counters = s.bus.counters
          else if s.bus.queue.length < 8 then
            t.bus.queue = s.bus.queue ++ [{ kind, sender, payload, own := decide (stationOf s = some sender) }] ∧
            t.bus.counters = s.bus.counters
          else t.bus.queue = s.bus.queue ∧
            t.bus.counters = { s.bus.counters with overruns := min 255 (s.bus.counters.overruns + 1) }
      else t = s)

/-- O18. Placing a frame: an EMPTY slot holds it; a PENDING frame off the line is replaced; behind a committed frame
or one on the line it becomes the successor, replacing an earlier one; the placement reports a replaced frame exactly
when one not yet committed is lost. Withdrawing from an EMPTY slot changes nothing; of a committed frame it removes
the successor alone; a frame not yet committed on the line is marked, and the withdrawal waits for its attempt; a
PENDING one off the line goes, and the slot is EMPTY. RESTART keeps a frame on the line alone. The model's choices in
it: log 11. -/
def Obligations.PlacementFollowsTheSlotState : Prop :=
  (∀ (onLine : Bool) (f : TxFrame) (sl : Slot),
    (sl.held = none → sl.place onLine f =
      ({ sl with held := some { frame := f, committed := false, attempts := 0, backoff := none } }, false)) ∧
    (∀ h, sl.held = some h → h.committed = false → onLine = false →
      sl.place onLine f = ({ sl with held := some { h with frame := f } }, true)) ∧
    (∀ h, sl.held = some h → h.committed = true ∨ onLine = true →
      sl.place onLine f = ({ sl with next := some f }, sl.next.isSome))) ∧
  (∀ (onLine : Bool) (sl : Slot), SlotInv sl →
    (sl.held = none → sl.withdraw onLine = sl) ∧
    (∀ h, sl.held = some h → h.committed = true → sl.withdraw onLine = { sl with next := none }) ∧
    (∀ h, sl.held = some h → h.committed = false → onLine = true →
      sl.withdraw onLine = { sl with withdrawDue := true }) ∧
    (∀ h, sl.held = some h → h.committed = false → onLine = false →
      sl.withdraw onLine = { held := none, next := none, withdrawDue := false, discardDue := false }) ∧
    (onLine = false → (sl.restart onLine).held = none) ∧
    (onLine = true → sl.restart onLine = { sl with next := none, discardDue := true }) ∧
    (sl.restart onLine).next = none)

/-- O19. ATTEMPT_START with the bus idle, no break, no attempt under way, no silence timer, and 100 ms since the last
attempt under BUS_FAULT: the eligible frame of the lowest kind goes on the line, WINCH before REPORT before BEAT
before ANSWER, and its levels are those of R2 and R3. Otherwise nothing starts. Nothing else changes. The model's
choices in it: log 3. -/
def Obligations.LowestEligibleKindStarts : Prop :=
  ∀ (s : State), ∃ t, exec .attemptStart s = .next t ∧
      (if s.bus.rx.recessiveRun = 12 ∧ s.bus.tx.breakLeft = none ∧ s.bus.tx.attempt = none ∧ s.node.silenceTimer = none ∧
          (s.bus.busFault = true → 100 ≤ s.bus.tx.sinceAttempt) then
        match [TxKind.winch, .report, .beat, .answer].find? (fun k =>
            (s.bus.slots.get k).held.any fun h => h.backoff.isNone) with
        | none => t = s
        | some k => ∀ h ∈ (s.bus.slots.get k).held,
          t = { s with bus := { s.bus with tx := { s.bus.tx with
                sinceAttempt := 0
                attempt := some { kind := k
                                  line := frameLine (frameBytes (txFrameKind k) h.frame.sender h.frame.payload) } } } }
      else t = s)

/-- O20. ARBITRATION_LOST: the attempt ends and nothing is counted but a replaced ANSWER. A frame already committed
keeps its place, attempt number and successor; one not committed stays held, unless a successor placed meanwhile
replaces it or a due withdrawal removes it. A frame that RESTART left on the line is discarded. With no attempt on the
line nothing happens. LINE_FAULT on an attempt: the frame fares as after lost arbitration; line_faults rises, the
line-fault run rises to 16 at most, where BUS_FAULT is set, and a reception under way becomes exempt. The model's
choices in it: logs 3, 9, 47. -/
def Obligations.LostAttemptsKeepTheFrame : Prop :=
  (∀ (s : State), ∃ t, exec .arbitrationLost s = .next t ∧
      ((lineKind s = none → t = s) ∧ ∀ k ∈ lineKind s, ∀ h ∈ (s.bus.slots.get k).held,
        t = { s with bus := { s.bus with
              tx := { s.bus.tx with attempt := none }, slots := s.bus.slots.put k (t.bus.slots.get k)
              counters := { s.bus.counters with answerDrops := t.bus.counters.answerDrops } } } ∧
        if h.committed = true ∨ (s.bus.slots.get k).withdrawDue = true ∨ (s.bus.slots.get k).discardDue = true ∨
            (s.bus.slots.get k).next = none then
          t.bus.counters.answerDrops = s.bus.counters.answerDrops ∧
          t.bus.slots.get k =
            if h.committed = false ∧ (s.bus.slots.get k).withdrawDue = true then Slot.empty
            else if (s.bus.slots.get k).discardDue = true then
              { held := (s.bus.slots.get k).next.map fun f =>
                  { frame := f, committed := false, attempts := 0, backoff := none }
                next := none, withdrawDue := false, discardDue := false }
            else s.bus.slots.get k
        else
          (t.bus.slots.get k).held = (s.bus.slots.get k).next.map (fun f =>
            { frame := f, committed := false, attempts := 0, backoff := none }) ∧ (t.bus.slots.get k).next = none ∧
          t.bus.counters.answerDrops =
            if k = .answer then min 255 (s.bus.counters.answerDrops + 1) else s.bus.counters.answerDrops)) ∧
  (∀ (s : State), ∃ t, exec .lineFault s = .next t ∧
      (match exec .arbitrationLost s with
      | .fault _ => False
      | .refused _ => False
      | .next u =>
        t = if lineKind s = none then s else { u with bus := { u.bus with
          counters := { u.bus.counters with lineFaults := min 255 (s.bus.counters.lineFaults + 1) }
          lineFaultRun := min 16 (s.bus.lineFaultRun + 1)
          busFault := s.bus.busFault || decide (15 ≤ s.bus.lineFaultRun)
          rx := { s.bus.rx with exempt := s.bus.rx.exempt || decide (s.bus.rx.state = .frame) } } }))

/-- O21. COLLISION: collisions is counted, the line-fault run stands. Up to the seventh the frame stays committed and
waits (4 + serial mod 16 + 2 x a) x 10 bit times, its successor kept unless a withdrawal is due; at the eighth it is
dropped, tx_drops is counted and the successor moves up. A frame that RESTART left on the line is discarded, uncounted
in tx_drops. The model's choices in it: logs 3, 9, 11. -/
def Obligations.CollisionBacksOffOrDrops : Prop :=
  ∀ (s : State), ∃ t, exec .collision s = .next t ∧
      ((lineKind s = none → t = s) ∧ ∀ k ∈ lineKind s, ∀ h ∈ (s.bus.slots.get k).held,
        t = { s with bus := { s.bus with
              rx := { s.bus.rx with exempt := s.bus.rx.exempt || decide (s.bus.rx.state = .frame) }
              tx := { s.bus.tx with attempt := none }, slots := s.bus.slots.put k (t.bus.slots.get k)
              counters := { s.bus.counters with
                collisions := min 255 (s.bus.counters.collisions + 1), txDrops := t.bus.counters.txDrops } } } ∧
        t.bus.counters.txDrops =
          (if (s.bus.slots.get k).discardDue = false ∧ 7 ≤ h.attempts then min 255 (s.bus.counters.txDrops + 1)
           else s.bus.counters.txDrops) ∧
        if (s.bus.slots.get k).discardDue = true ∨ 7 ≤ h.attempts then
          (t.bus.slots.get k).held =
            (if (s.bus.slots.get k).withdrawDue then none else (s.bus.slots.get k).next).map (fun f =>
              { frame := f, committed := false, attempts := 0, backoff := none }) ∧ (t.bus.slots.get k).next = none
        else
          (t.bus.slots.get k).held = some
            { h with committed := true, attempts := h.attempts + 1
                     backoff := some ((4 + s.node.serial.toNat % 16 + 2 * (h.attempts + 1)) * 10) } ∧
          (t.bus.slots.get k).next =
            if (s.bus.slots.get k).withdrawDue then none else (s.bus.slots.get k).next)

/-- O22. BACKOFF_EXPIRY makes the held frame eligible again; BREAK_END releases the line; ATTEMPT_COMPLETE takes the
frame from its slot, moves its successor up, sets the line-fault run to 0, clears BUS_FAULT and marks the reception of
the same bit times as own echo; the node's own BEAT restarts the super-cycle at beat 0, with the steps of beat 0
active and of beat 1 staged. Nothing else changes. The model's choices in it: logs 2, 3, 10, 11, 22. -/
def Obligations.AttemptsAndBreaksEnd : Prop :=
  (∀ (kind : TxKind) (s : State), ∃ t, exec (.backoffExpiry kind) s = .next t ∧
      (t = { s with bus := { s.bus with slots := s.bus.slots.put kind (t.bus.slots.get kind) } } ∧
      t.bus.slots.get kind = { s.bus.slots.get kind with
        held := (s.bus.slots.get kind).held.map fun h => { h with backoff := none } })) ∧
  (∀ (s : State), ∃ t, exec .breakEnd s = .next t ∧
      t = { s with bus := { s.bus with tx := { s.bus.tx with breakLeft := none } } }) ∧
  (∀ (s : State), ∃ t, exec .attemptComplete s = .next t ∧
      ((lineKind s = none → t = s) ∧ ∀ k ∈ lineKind s,
        t = { s with
          bus := { s.bus with
            rx := { s.bus.rx with echo := s.bus.rx.echo || decide (s.bus.rx.state = .frame) }
            tx := { s.bus.tx with attempt := none }, lineFaultRun := 0, busFault := false
            slots := s.bus.slots.put k (t.bus.slots.get k) }
          lights := t.lights } ∧
        (t.bus.slots.get k).held =
          (if (s.bus.slots.get k).withdrawDue then none else (s.bus.slots.get k).next).map (fun f =>
            { frame := f, committed := false, attempts := 0, backoff := none }) ∧ (t.bus.slots.get k).next = none ∧
        if k = .beat then CycleRestarted s t ∧ t.lights.epoch = s.lights.epoch ∧ t.lights.heard = s.lights.heard
        else t.lights = s.lights))

/-! ## The node controller (spec 02, 03) -/

/-- O23. With a station number and 5 ms or more since the last placement, one ordinary REPORT is placed with the next
sequence number, the report timer restarts and the held-event mark clears; within 5 ms the mark is set; with no event
nothing changes. The model's choices in it: log 12. -/
def Obligations.EventsSettleIntoOneReport : Prop :=
  ∀ s : State,
    (s.node.eventDue = false → settle s = s) ∧
    (∀ n, stationOf s = some n → s.node.eventDue = true → (∀ ms, s.node.sinceReport = some ms → 5 ≤ ms) →
      (settle s).node = { s.node with eventDue := false, sequence := (s.node.sequence + 1) % 16, reportTimer := some 0
                                      sinceReport := some 0, heldEvent := false } ∧
      (settle s).bus.slots.report =
        (s.bus.slots.report.place (lineKind s = some .report) { sender := n, payload := reportPayload s }).1 ∧
      settle s = { s with node := (settle s).node
                          bus := { s.bus with slots := { s.bus.slots with report := (settle s).bus.slots.report } } }) ∧
    (∀ ms, s.node.eventDue = true → s.node.sinceReport = some ms → ms < 5 →
      settle s = { s with node := { s.node with eventDue := false, heldEvent := true } })

/-- O24. STRAP_READ_SUCCESS in STRAP: the node takes the position and enters LISTEN: both timers start, the staging
image is empty, the intake is cleared, bridge B is OFF and bridge A in its safe hold (BRAKE on a corner not
withdrawn), the lamp functions are those of the default map, the beat timer runs. STRAP_READ_FAIL in STRAP: CONFLICT
with cause STRAP and the strap code of the last band, a CONFLICT fault record, outputs safe. Outside STRAP neither
does anything. The model's choices in it: logs 2, 3. -/
def Obligations.StrapReadingGivesThePosition : Prop :=
  (∀ (pos : Position) (s : State), ∃ t, exec (.strapReadSuccess pos) s = .next t ∧
      SameButEntry { s with
        node := { s.node with position := t.node.position, strap := t.node.strap }
        power := { s.power with timer := t.power.timer } } t ∧
      (if s.node.state = .strap then
        t.node.state = .listen ∧ t.node.position = some pos ∧ t.node.silenceTimer = some 0 ∧
        t.node.defaultTimer = some 0 ∧ t.node.staging = [] ∧ t.node.reportTimer = none ∧
        t.intake = clearedIntake s.intake.record ∧
        HeldSafe (safeHold s.monitor.withdrawn.bridgeA s.monitor.holdA (roleOf t)) t ∧
        (t.lights.channels.l0.function, t.lights.channels.l1.function, t.lights.channels.l2.function,
          t.lights.channels.l3.function) = ((fun q : Quad LampFunction => (some q.l0, some q.l1, some q.l2, some q.l3))
            (lampsOfClass defaultFields.lights pos)) ∧
        t.lights.beatTimer.isSome ∧ t.peers = s.peers ∧ t.bus.queue = s.bus.queue ∧ t.monitor.faults = s.monitor.faults
      else t = s)) ∧
  (∀ (last : Option Position) (s : State), ∃ t, exec (.strapReadFail last) s = .next t ∧
      SameButEntry { s with
        node := { s.node with conflict := t.node.conflict, strap := t.node.strap } } t ∧
      (if s.node.state = .strap then
        t.node.state = .conflict ∧ t.node.position = s.node.position ∧
        t.node.conflict = some { cause := .strap, strapCode := (last.map posCode).getD 0, refused := false } ∧
        t.monitor.faults = ({ kind := .conflict, output := .none, state := .strap, uptime := s.node.uptime
                              detail := 0 } :: s.monitor.faults).take 8 ∧
        t.node.silenceTimer = none ∧ t.intake = clearedIntake s.intake.record ∧ t.lights.beatTimer.isSome ∧
        (s.node.position = none → t.bus.slots = s.bus.slots ∧
          HeldSafe (if s.monitor.withdrawn.bridgeA then s.monitor.holdA.getD .off else .off) t)
      else t = s))

/-- O25. SILENCE_TIMER_EXPIRY in LISTEN places the first ordinary REPORT and starts the report timer; with an image in
force the node leaves for CHECK, at the supply test when VPACK fails it, else it stays in LISTEN. DEFAULT_TIMER_EXPIRY
in LISTEN with no image: the default image comes into force, DEFAULT_CONFIG is set, the supervisor starts, a corner's
wheel figures are 346 mm and 1561 cps, the pack monitor role is settled from the position and the cell taps, and the
node leaves for CHECK. A stopped timer, another state, or an image already in force changes nothing but the timer. The
model's choices in it: logs 2, 3, 18, 34, 36. -/
def Obligations.ListenTimersLeadToCheck : Prop :=
  (∀ (s : State), ∃ t, exec .silenceTimerExpiry s = .next t ∧
      SameButEntry s t ∧
      (if s.node.state = .listen ∧ s.node.silenceTimer ≠ none then
        t.node.silenceTimer = none ∧ t.node.reportTimer = some 0 ∧ t.node.sinceReport = some 0 ∧
        t.node.sequence = (s.node.sequence + 1) % 16 ∧ t.node.image = s.node.image ∧
        (∀ n ∈ stationOf s, t.bus.slots.report =
          (s.bus.slots.report.place (decide (lineKind s = some .report))
            { sender := n, payload := reportPayload s }).1) ∧
        if s.node.image = none then
          SameButReport { s with node := { s.node with silenceTimer := none } } t
        else
          InCheckOrThrough t ∧ t.node.defaultTimer = none ∧ t.node.staging = [] ∧
          t.intake = clearedIntake s.intake.record ∧ (t.monitor.record.inProgress = true ↔ t.node.state = .check) ∧
          (supplyPasses s.pins.vpack = false → t.monitor.position = some .supply ∧ t.node.state = .check)
      else t = s)) ∧
  (∀ (s : State), ∃ t, exec .defaultTimerExpiry s = .next t ∧
      SameButEntry { s with
        node := { s.node with
          image := t.node.image, defaultConfig := t.node.defaultConfig, packMonitor := t.node.packMonitor }
        power := t.power, drive := { s.drive with figures := t.drive.figures, limited := t.drive.limited }
        steer := { s.steer with limited := t.steer.limited }
        winch := { s.winch with
          filter0 := t.winch.filter0, filter1 := t.winch.filter1, filterTimer := t.winch.filterTimer
          timer := t.winch.timer, drumLimited := t.winch.drumLimited, solenoidLimited := t.winch.solenoidLimited } } t ∧
      (if s.node.state = .listen ∧ s.node.defaultTimer ≠ none then
        if s.node.image = none then
          t.node.image = some { source := .default, crc := crc8 defaultBytes, clamped := 0, fields := defaultFields } ∧
          t.node.defaultConfig = true ∧ t.node.staging = [] ∧ t.node.defaultTimer = none ∧
          t.power = { State.reset.power with running := true } ∧
          t.drive.figures = (if roleOf s = .corner then some { circumference := 346, vMaxCps := 1561 } else none) ∧
          t.node.packMonitor = (decide (stationOf s = some (fieldsOf t).vehicle.packMonitorPosition) &&
            (s.pins.cells.toList.take (fieldsOf t).vehicle.cellCount).all fun v => decide (2000 ≤ v ∧ v ≤ 4500)) ∧
          InCheckOrThrough t ∧ t.intake = clearedIntake s.intake.record ∧
          (supplyPasses s.pins.vpack = false → t.monitor.position = some .supply ∧ t.node.state = .check)
        else t = { s with node := { s.node with defaultTimer := none } }
      else t = s))

/-- O26. CONFIG takes the oldest frame when it is a CONFIG. Outside LISTEN, with an image in force, or with a payload
that is no segment of its index, it is ignored and cfg_ignored is counted. Otherwise the segment is held under its
index. When all eight are held, a failed CRC or version empties the staging image and counts cfg_ignored once; an
accepted image comes into force as RECEIVED with byte 63 as its CRC, its clamped-field count and its converted fields,
the staging image is empty, the supervisor starts with its marks of use and of ceiling cuts clear, the pack monitor
role is settled (this node's station, with taps C1 to C(cell_count) all 2000 to 4500 mV), a corner takes its wheel
figures, the winch position puts bridge A in BRAKE at once with its limit filters and ticks started afresh, and after
the silence timer the node leaves for CHECK. The step then settles its events. The model's choices in it: logs 3, 18,
34, 36. -/
def Obligations.ConfigSegmentsMakeTheImage : Prop :=
  ∀ (s : State), ∃ t, exec .config s = .next t ∧
      SameButEntry { s with
        bus := { s.bus with queue := t.bus.queue, counters := { s.bus.counters with cfgIgnored := t.bus.counters.cfgIgnored } }
        node := { s.node with image := t.node.image, packMonitor := t.node.packMonitor }
        power := t.power, drive := { s.drive with figures := t.drive.figures, limited := t.drive.limited }
        steer := { s.steer with limited := t.steer.limited }
        winch := { s.winch with
          filter0 := t.winch.filter0, filter1 := t.winch.filter1, filterTimer := t.winch.filterTimer
          timer := t.winch.timer, drumLimited := t.winch.drumLimited, solenoidLimited := t.winch.solenoidLimited } } t ∧
      ((headOfKind .config s = none → t = s) ∧ ∀ f ∈ headOfKind .config s,
        if s.node.state ≠ .listen ∨ s.node.image ≠ none ∨ segmentFits f.payload = false then
          t = settle { s with bus := { s.bus with
            queue := s.bus.queue.tail
            counters := { s.bus.counters with cfgIgnored := min 255 (s.bus.counters.cfgIgnored + 1) } } }
        else if stagingComplete (stagedWith f.payload s.node.staging) = false then
          t = settle { s with bus := { s.bus with queue := s.bus.queue.tail }
                              node := { s.node with staging := stagedWith f.payload s.node.staging } }
        else if imageAccepted (stagedBytes (stagedWith f.payload s.node.staging)) = false then
          t = settle { s with
            bus := { s.bus with
              queue := s.bus.queue.tail
              counters := { s.bus.counters with cfgIgnored := min 255 (s.bus.counters.cfgIgnored + 1) } }
            node := { s.node with staging := [] } }
        else
          t.node.image = some
            { source := .received
              crc := (stagedBytes (stagedWith f.payload s.node.staging)).getD 62 0#8
              clamped := clampedCount (stagedBytes (stagedWith f.payload s.node.staging))
              fields := imageFields (stagedBytes (stagedWith f.payload s.node.staging)) } ∧
          t.node.packMonitor = (decide (stationOf s = some (fieldsOf t).vehicle.packMonitorPosition) &&
            (s.pins.cells.toList.take (fieldsOf t).vehicle.cellCount).all fun v => decide (2000 ≤ v ∧ v ≤ 4500)) ∧
          t.drive.figures = (if roleOf t = .corner then some (wheelFigures (fieldsOf t).drive) else none) ∧
          t.drive.limited = false ∧ t.steer.limited = false ∧
          t.node.staging = [] ∧ t.power = { State.reset.power with running := true } ∧
          t.bus.queue = s.bus.queue.tail ∧ t.bus.counters.cfgIgnored = s.bus.counters.cfgIgnored ∧
          if s.node.silenceTimer = none then InCheckOrThrough t
          else
            t.node.state = .listen ∧ t.node.silenceTimer = s.node.silenceTimer ∧
            t.bridgeB = { s.bridgeB with used := drivesMode s.bridgeB.active.mode } ∧
            if roleOf t = .winch then
              t.bridgeA.active = ⟨safeModeA t, 0⟩ ∧ t.bridgeA.next = ⟨safeModeA t, 0⟩ ∧
              t.winch = { s.winch with
                filter0 := LimitFilter.reset, filter1 := LimitFilter.reset, filterTimer := 0, timer := 0
                drumLimited := false, solenoidLimited := false }
            else t.bridgeA = { s.bridgeA with used := drivesMode s.bridgeA.active.mode })

/-- O27. Whatever the 63 bytes, the fields taken into force lie in the ranges of Table 2-5 and meet the four relations
of R36; the clamped-field count is 0 exactly when nothing was changed, for the lamp map and for the other fields; and
the bytes of the default image give the default fields with a count of 0. Every step keeps the image in force within
its ranges and relations. -/
def Obligations.ImageStaysInItsRanges : Prop :=
  ((∀ bytes : List Byte, PowerRanges (imageFields bytes) ∧ MotionRanges (imageFields bytes) ∧
    ImageRelations (imageFields bytes)) ∧
  (∀ bytes : List Byte, clampedCount bytes = 0 ↔
    lampMapChanged bytes = false ∧ settleFields (storedImage bytes) = storedImage bytes) ∧
  imageFields (defaultBytes ++ [crc8 defaultBytes]) = defaultFields ∧
  clampedCount (defaultBytes ++ [crc8 defaultBytes]) = 0 ∧ imageAccepted (defaultBytes ++ [crc8 defaultBytes]) = true) ∧
  (∀ s t : State, ImageInv s → step s = .next t → ImageInv t)

/-- O28. ASSIGN takes the oldest frame when it is an ASSIGN. One that does not fit its layout is discarded. Outside
CONFLICT, or for another serial, assign_ignored is counted. In CONFLICT for this serial, a position outside 1 to 8 or
one a FRESH peer holds sets the refused flag and places a conflict notice, or none without a station number; any other
is accepted: position taken, conflict data and image gone, LISTEN entered, and every block as at RESTART (Table 2-7):
receive queue, counters, slots off the line, peers, intake, supervisor, steering with its calibration, drive, drum,
limit filters, lamps, check record and withdrawals reset; serial, uptime, receiver, line-fault run, BUS_FAULT, line-
out, reference, winch log, fault list and sensors kept. The model's choices in it: logs 3, 39, 41, 42. -/
def Obligations.AssignGivesANewPosition : Prop :=
  ∀ (s : State), ∃ t, exec .assign s = .next t ∧
      ((headOfKind .assign s = none → t = s) ∧ ∀ f ∈ headOfKind .assign s,
        if f.payload.length ≠ 4 then t = { s with bus := { s.bus with queue := s.bus.queue.tail } }
        else if s.node.state ≠ .conflict ∨
            be24 (f.payload.getD 0 0#8) (f.payload.getD 1 0#8) (f.payload.getD 2 0#8) ≠ s.node.serial.toNat then
          t = { s with bus := { s.bus with queue := s.bus.queue.tail }
                       node := { s.node with assignIgnored := min 255 (s.node.assignIgnored + 1) } }
        else if (f.payload.getD 3 0#8).toNat = 0 ∨ 8 < (f.payload.getD 3 0#8).toNat ∨
            s.peers.table.any (fun e => e.station = (f.payload.getD 3 0#8).toNat && e.age ≤ 60) then
          t = { s with
            bus := { s.bus with queue := s.bus.queue.tail, slots := { s.bus.slots with report := t.bus.slots.report } }
            node := { s.node with
              conflict := s.node.conflict.map fun c => { c with refused := true }
              noticeTimer := t.node.noticeTimer } } ∧
          (match s.node.conflict, stationOf s with
          | some c, some n => t.node.noticeTimer = some 0 ∧
            t.bus.slots.report = (s.bus.slots.report.place (decide (lineKind s = some .report))
              { sender := n, payload := noticePayload s.node.serial true c.strapCode }).1
          | _, _ => t.node.noticeTimer = s.node.noticeTimer ∧ t.bus.slots.report = s.bus.slots.report)
        else
          t.node.conflict = none ∧ t.winch.log = s.winch.log ∧
          t.bus.slots.answer = slotRestarted (lineKind s = some .answer) s.bus.slots.answer ∧
          t.node.position.map posCode = some (f.payload.getD 3 0#8).toNat ∧ ∀ p ∈ t.node.position, RestartedAt p s t)

/-- O29. OWN_STATION_FRAME takes the oldest frame when it is marked. In LISTEN, CHECK, SAFE, RUN and FAILSAFE, with
the sender still the node's number, the node enters CONFLICT with cause DUPLICATE: fault record with the state left,
intake cleared, outputs safe, a notice placed, the image kept. Otherwise the frame is discarded. The model's choices
in it: log 3. -/
def Obligations.OwnStationFrameIsAConflict : Prop :=
  ∀ (s : State), ∃ t, exec .ownStationFrame s = .next t ∧
      SameButEntry { s with
        bus := { s.bus with queue := t.bus.queue }, node := { s.node with conflict := t.node.conflict } } t ∧
      ((headOwn s = none → t = s) ∧ ∀ f ∈ headOwn s,
        if stationOf s = some f.sender ∧ s.node.state ≠ .strap ∧ s.node.state ≠ .cutoff ∧ s.node.state ≠ .conflict then
          t.node.state = .conflict ∧
          t.node.conflict = some { cause := .duplicate, strapCode := f.sender, refused := false } ∧
          t.monitor.faults = ({ kind := .conflict, output := .none, state := s.node.state, uptime := s.node.uptime
                                detail := 1 } :: s.monitor.faults).take 8 ∧
          t.monitor.position = none ∧ t.intake = clearedIntake s.intake.record ∧
          HeldSafe (safeHold s.monitor.withdrawn.bridgeA s.monitor.holdA (roleOf s)) t ∧
          t.node.noticeTimer = some 0 ∧ t.node.reportTimer = none ∧ t.node.heldEvent = false ∧
          t.bus.slots.report = (s.bus.slots.report.place (decide (lineKind s = some .report))
            { sender := f.sender, payload := noticePayload s.node.serial false f.sender }).1 ∧
          t.power.allowance = 0 ∧ t.node.image = s.node.image ∧ t.peers = s.peers ∧
          t.bus.queue = s.bus.queue.tail ∧ t.node.staging = []
        else t = { s with bus := { s.bus with queue := s.bus.queue.tail } })

/-- O30. REPORT_TIMER_EXPIRY with its timer running, and HELD_EVENT_SPACING_EXPIRY with the mark set, each place one
ordinary REPORT in a state that reports: its payload goes to the REPORT slot under R13, the sequence advances modulo
16, the timer restarts and the mark clears. CONFLICT_NOTICE_TIMER in CONFLICT places a notice and restarts its
interval. UPTIME_TICK counts to 16777215. Nothing else changes. The model's choices in it: logs 2, 3. -/
def Obligations.ReportTimersPlaceReports : Prop :=
  (∀ (s : State), ∃ t, exec .reportTimerExpiry s = .next t ∧
      (if reportsNow s = true ∧ s.node.reportTimer ≠ none then
        t = { s with
          node := { s.node with
            sequence := (s.node.sequence + 1) % 16, reportTimer := some 0, sinceReport := some 0, heldEvent := false }
          bus := { s.bus with slots := { s.bus.slots with report := t.bus.slots.report } } } ∧
        ∀ n ∈ stationOf s, t.bus.slots.report =
          (s.bus.slots.report.place (decide (lineKind s = some .report)) { sender := n, payload := reportPayload s }).1
      else t = s)) ∧
  (∀ (s : State), ∃ t, exec .heldEventSpacingExpiry s = .next t ∧
      (if reportsNow s = true ∧ s.node.heldEvent = true then
        t = { s with
          node := { s.node with
            sequence := (s.node.sequence + 1) % 16, reportTimer := some 0, sinceReport := some 0, heldEvent := false }
          bus := { s.bus with slots := { s.bus.slots with report := t.bus.slots.report } } } ∧
        ∀ n ∈ stationOf s, t.bus.slots.report =
          (s.bus.slots.report.place (decide (lineKind s = some .report)) { sender := n, payload := reportPayload s }).1
      else t = s)) ∧
  (∀ (s : State), ∃ t, exec .conflictNoticeTimer s = .next t ∧
      (if s.node.state = .conflict ∧ s.node.noticeTimer ≠ none ∧ s.node.conflict ≠ none ∧ s.node.position ≠ none then
        t = { s with
          node := { s.node with noticeTimer := some 0 }
          bus := { s.bus with slots := { s.bus.slots with report := t.bus.slots.report } } } ∧
        ∀ c ∈ s.node.conflict, ∀ n ∈ stationOf s, t.bus.slots.report =
          (s.bus.slots.report.place (decide (lineKind s = some .report))
            { sender := n, payload := noticePayload s.node.serial c.refused c.strapCode }).1
      else t = s)) ∧
  (∀ (s : State), ∃ t, exec .uptimeTick s = .next t ∧
      t = { s with node := { s.node with uptime := min 16777215 (s.node.uptime + 1), uptimeTimer := 0 } })

/-! ## Peers, queries and commands (spec 03, 04) -/

/-- O31. REPORT takes the oldest frame when it is a REPORT that is no own-station frame. With a station number and an
ordinary REPORT, the entry of its sender holds the frame's fields and age 0, and every other entry stands; a conflict
notice or a payload that fits no layout, or a node without a station number, changes no entry. Nothing else changes,
and the lapse reserve stands. WINCH takes the oldest frame when it is a WINCH of another station: with a drum state
code of 0 to 8, its line speed and assist flag become the link record with age 0, but in a CONFLICT without station
number; otherwise the record stands. WINCH_LINK_EXPIRY discards a record older than 60 ms, and the model's clock gives
it when the age reaches 61 ms: a record of age 60 and an empty queue step to age 61 with the command waiting. Nothing
else changes. The model's choices in it: logs 1, 2, 3, 30. -/
def Obligations.PeerFramesMakeTheTables : Prop :=
  (∀ (s : State) (l : WinchLink), s.pending = [] → s.peers.link = some l → l.age = 60 →
    ∃ t, step s = .next t ∧ .winchLinkExpiry ∈ t.pending ∧ t.peers.link = some { l with age := 61 }) ∧
  (∀ (s : State), ∃ t, exec .report s = .next t ∧
      ((headOfKind .report s = none → t = s) ∧ ∀ f ∈ headOfKind .report s,
        t = { s with bus := { s.bus with queue := s.bus.queue.tail }
                     peers := { s.peers with table := t.peers.table } } ∧
        match s.node.position, readReport f.sender f.payload with
        | some _, some (.ordinary e) =>
          e.station = f.sender ∧ e.age = 0 ∧
          t.peers.table.find? (fun x => x.station = f.sender) = some e ∧
          t.peers.table.filter (fun x => x.station ≠ f.sender) = s.peers.table.filter (fun x => x.station ≠ f.sender)
        | _, _ => t.peers.table = s.peers.table)) ∧
  (∀ (s : State), ∃ t, exec .winch s = .next t ∧
      ((headOfKind .winch s = none → t = s) ∧ ∀ f ∈ headOfKind .winch s,
        t = { s with bus := { s.bus with queue := s.bus.queue.tail }, peers := { s.peers with link := t.peers.link } } ∧
        t.peers.link =
          if (s.node.state = .conflict ∧ s.node.position = none) ∨ f.payload.length ≠ 8 ∨
              8 < (f.payload.getD 0 0#8).toNat then s.peers.link
          else some { lineSpeed := beS16 (f.payload.getD 1 0#8) (f.payload.getD 2 0#8)
                      assist := (f.payload.getD 5 0#8).getLsbD 1, age := 0 })) ∧
  (∀ (s : State), ∃ t, exec .winchLinkExpiry s = .next t ∧
      (t = { s with peers := { s.peers with link := match s.peers.link with
        | none => none
        | some l => if l.age ≤ 60 then some l else none } }))

/-- O32. For every state but CONFLICT with a sequence of 0 to 15, the payload of an ordinary REPORT, with or without
the min-cell field, is read by a peer as the node state, the computed level, I and D clamped to 1000 dA, the wheel
speed clamped to 3000 mm/s, and the BRAKING and STEER_LOST flags of Table 3-2. -/
def Obligations.ReportReadsBackAsSent : Prop :=
  ∀ (n : Nat) (s : State), s.node.state ≠ .conflict → s.node.sequence ≤ 15 →
    readReport n (reportPayload s) = some (.ordinary
      { station := n, state := s.node.state, level := s.power.level, current := min 1000 s.power.iOwn
        demand := min 1000 s.power.dOwn, speed := reportSpeed s
        braking := (roleOf s = .corner || roleOf s = .winch) && s.drive.braking
        steerLost := (roleOf s = .corner || roleOf s = .winch) && s.steer.steerLost, age := 0 })

/-- O33. PEER_LOST removes the entry of its station when its age is above 200 ms and adds its last current to G, at
most 1000 dA; with no such entry nothing changes, so one that a REPORT taken first has renewed stands. The station
then counts in no sum, a REPORT taken later leaves G as it is, and an entry that reaches 201 ms is given its PEER_LOST
by the model's clock. The model's choices in it: logs 1, 2, 3. -/
def Obligations.SilentPeerJoinsTheReserve : Prop :=
  (∀ (station : Nat) (s : State), ∃ t, exec (.peerLost station) s = .next t ∧
    match s.peers.table.find? (fun e => e.station = station && decide (200 < e.age)) with
    | none => t = s
    | some e =>
      t = { s with peers := { s.peers with table := t.peers.table, reserve := min 1000 (s.peers.reserve + e.current) } } ∧
      t.peers.table = s.peers.table.filter (fun x => x.station ≠ station) ∧
      ∀ x ∈ countedPeers t.peers, x.station ≠ station) ∧
  (∀ s t : State, exec .report s = .next t → t.peers.reserve = s.peers.reserve) ∧
  (∀ (s : State) (e : PeerEntry), s.pending = [] → e ∈ s.peers.table → e.age = 200 →
    ∃ t, step s = .next t ∧ .peerLost e.station ∈ t.pending)

/-- O34. The entries the table holds make the sums and the count, one past 200 ms whose removal is still to come as
STALE (R48); entries of 60 ms or less make the worst level, peer braking, axle-mate steering lost and the median: the
median is a speed of theirs from stations 1 to 6, with at most floor((n-1)/2) speeds below it and more than that many
not above it, and it is absent when there is none. -/
def Obligations.PeerFiguresFollowTheTable : Prop :=
  ∀ s : State,
    peerCurrent s.peers = (s.peers.table.map PeerEntry.current).sum ∧
    peerDemand s.peers = (s.peers.table.map PeerEntry.demand).sum ∧
    peerCount s.peers = s.peers.table.length ∧
    (∀ l : Protection, (∀ e ∈ s.peers.table, e.age ≤ 60 → levelRank e.level ≤ levelRank l) ↔
      levelRank (worstPeerLevel s.peers) ≤ levelRank l) ∧
    (peerBraking s.peers = true ↔ ∃ e ∈ s.peers.table, e.age ≤ 60 ∧ e.braking = true) ∧
    (mateSteerLost s = true ↔ ∃ p m, s.node.position = some p ∧ axleMate p = some m ∧
      ∃ e ∈ s.peers.table, e.station = m ∧ e.age ≤ 60 ∧ e.steerLost = true) ∧
    (speedMedian s.peers = none ↔ ∀ e ∈ s.peers.table, e.age ≤ 60 → 6 < e.station) ∧
    (∀ m, speedMedian s.peers = some m →
      let speeds := (s.peers.table.filter fun e => e.age ≤ 60 && e.station ≤ 6).map PeerEntry.speed
      m ∈ speeds ∧ (speeds.filter (· < m)).length ≤ (speeds.length - 1) / 2 ∧
      (speeds.length - 1) / 2 < (speeds.filter (· ≤ m)).length)

/-- O35. CHECK_RECORD, FAULT, WINCH_LOG, COUNTERS, IMAGE and BUDGET take the oldest frame when it is a QUERY of their
code; one addressed to this node, not in CONFLICT, is answered: OK with the data of Table 11-11, BAD_INDEX for an
index above 7 (FAULT) or 3 (WINCH_LOG), OK with no data where no record is held, and UNKNOWN for WINCH_LOG off the
winch position. Nothing read changes. The bytes of the data, of a conflict notice (Table 11-7) and of a WINCH frame
(Table 11-8) are spelled with the codes of Table 11-12: 7, 8, 9, 9, 5 and 9 bytes, 5 and 8 bytes, the most significant
first; a latency of 65535 ms or more is 65534, an absent one 65535, and currents and line-out above their field are
clamped. The model's choices in it: logs 3, 28, 48. -/
def Obligations.QueriesReadTheBlocks : Prop :=
  ((∀ (r : CheckRecord) (c : BusCounters),
    let code : CheckResult → Byte := fun x => match x with
      | .ok => 0#8
      | .opened => 1#8
      | .shortGnd => 2#8
      | .shortSupply => 3#8
      | .lowR => 4#8
      | .notTested => 5#8
      | .absent => 6#8
      | .sweepFail => 7#8
    checkRecordData r = [code r.bridgeA, code r.bridgeB, code r.lamps.l0, code r.lamps.l1, code r.lamps.l2,
      code r.lamps.l3, if r.inProgress then 1#8 else 0#8] ∧ ((counterList c).map byteOf).length = 9) ∧
  (∀ r : FaultRecord, r.uptime ≤ 16777215 →
    let b : Nat → Nat := fun i => ((faultData r).getD i 0#8).toNat
    (faultData r).length = 8 ∧
    b 0 = (match r.kind with
      | .conflict => 1
      | .cutoff => 2
      | .checkFail => 3
      | .overcurrent => 4
      | .lampShort => 5
      | .steerStall => 6
      | .steerSensor => 7
      | .encoder => 8
      | .thermalSensor => 9
      | .overtemp => 10) ∧
    b 1 = (match r.output with
      | .none => 0
      | .bridgeA => 1
      | .bridgeB => 2
      | .lamp .l0 => 3
      | .lamp .l1 => 4
      | .lamp .l2 => 5
      | .lamp .l3 => 6
      | .sensor .ts1 => 7
      | .sensor .die => 8) ∧
    b 2 = (match r.state with
      | .strap => 0
      | .listen => 1
      | .check => 2
      | .safe => 3
      | .run => 4
      | .failsafe => 5
      | .cutoff => 6
      | .conflict => 7) ∧
    b 3 * 65536 + b 4 * 256 + b 5 = r.uptime ∧ ((b 6 * 256 + b 7 : Nat) : Int) = r.detail % 65536) ∧
  (∀ r : LogRecord, r.duration ≤ 65535 →
    let b : Nat → Nat := fun i => ((logData r).getD i 0#8).toNat
    (logData r).length = 9 ∧
    b 0 = (match r.dir with
      | .haul => 0
      | .payOut => 16) + (match r.reason with
      | .lever => 0
      | .stall => 1
      | .limitIn => 2
      | .limitOut => 3
      | .softLimit => 4
      | .failsafe => 5
      | .cutoff => 6
      | .fault => 7) ∧
    b 1 * 256 + b 2 = (match r.latency with
      | none => 65535
      | some ms => min 65534 ms) ∧
    b 3 * 256 + b 4 = r.duration ∧ b 5 * 256 + b 6 = min 65535 r.peak ∧ b 7 * 256 + b 8 = min 65535 r.lineOut) ∧
  (∀ s : State, s.node.assignIgnored ≤ 255 →
    (imageData s).length = 5 ∧
    (imageData s).take 3 = (match s.node.image with
      | none => [0#8, 0#8, 0#8]
      | some i => [if i.source = .received then 1#8 else 2#8, i.crc, byteOf i.clamped]) ∧
    ((imageData s).getD 3 0#8).toNat = s.node.assignIgnored ∧
    ∀ k : Nat, k < 8 → ((imageData s).getD 4 0#8).getLsbD k = s.node.staging.any (fun x => x.1 = k)) ∧
  (∀ s : State, s.power.vRest ≤ 65535 → s.power.avail ≤ 65535 → s.power.allowance ≤ 65535 →
    let b : Nat → Nat := fun i => ((budgetData s).getD i 0#8).toNat
    let code : Protection → Nat := fun l => match l with
      | .normal => 0
      | .derate => 1
      | .limp => 2
      | .cutoff => 3
    (budgetData s).length = 9 ∧ b 0 * 256 + b 1 = s.power.vRest ∧ b 2 * 256 + b 3 = min 65535 s.power.iTotal ∧
    b 4 * 256 + b 5 = s.power.avail ∧ b 6 * 256 + b 7 = s.power.allowance ∧
    b 8 = 16 * code s.power.level + code (if s.node.state = .cutoff then .cutoff else s.power.tickLevel)) ∧
  (∀ (serial : BitVec 24) (refused : Bool) (strap : Nat), strap ≤ 8 →
    let b : Nat → Nat := fun i => ((noticePayload serial refused strap).getD i 0#8).toNat
    (noticePayload serial refused strap).length = 5 ∧ b 0 = 7 ∧
    b 1 * 65536 + b 2 * 256 + b 3 = serial.toNat ∧ b 4 = (if refused then 128 else 0) + strap) ∧
  (∀ s : State, s.winch.lineOut / 100 ≤ 65535 →
    let b : Nat → Nat := fun i => ((winchPayload s).getD i 0#8).toNat
    (winchPayload s).length = 8 ∧
    b 0 = (match s.winch.drum with
      | .braked => 0
      | .engaging => 1
      | .haulIn => 2
      | .payOut => 3
      | .stalled => 4
      | .atLimitIn => 5
      | .atLimitOut => 6
      | .freespool => 7
      | .withdrawn => 8) ∧
    ((b 1 * 256 + b 2 : Nat) : Int) = s.winch.lineSpeed % 65536 ∧ b 3 * 256 + b 4 = s.winch.lineOut / 100 ∧
    b 5 = (if s.winch.referenced then 1 else 0) + (if winchAssist s then 2 else 0) ∧
    b 6 * 256 + b 7 = min 65535 s.winch.motorCurrent)) ∧
  (∀ (s : State), ∃ t, exec .checkRecord s = .next t ∧
      AnswersQuery 1 (fun _ => 0#8 :: checkRecordData s.monitor.record) s t) ∧
  (∀ (s : State), ∃ t, exec .fault s = .next t ∧
      AnswersQuery 2 (indexedReply 7 s.monitor.faults faultData) s t) ∧
  (∀ (s : State), ∃ t, exec .winchLog s = .next t ∧
      (AnswersQuery 3
        (fun q => if roleOf s = .winch then indexedReply 3 s.winch.log logData q else [3#8]) s t)) ∧
  (∀ (s : State), ∃ t, exec .counters s = .next t ∧
      AnswersQuery 4 (fun _ => 0#8 :: (counterList s.bus.counters).map byteOf) s t) ∧
  (∀ (s : State), ∃ t, exec .image s = .next t ∧
      AnswersQuery 5 (fun _ => 0#8 :: imageData s) s t) ∧
  (∀ (s : State), ∃ t, exec .budget s = .next t ∧
      AnswersQuery 6 (fun _ => 0#8 :: budgetData s) s t)

/-- O36. RESTART takes the oldest frame when it is a QUERY of code 7. For another node, or in CONFLICT, it is
discarded. In CUTOFF it is answered REFUSED_STATE and changes nothing else. Otherwise, in a state whose slots hold the
frame that is on the line, every block is as Table 2-7 gives: image, flags, staging, counters, queue, slots off the
line, peers, intake, supervisor, steering, drive, drum, limit filters, governor cap, lamps with their channels, check
record, withdrawals and trip histories are reset; station, serial, uptime, receiver, line-fault run, BUS_FAULT, line-
out, reference, winch log (with the record of an operation ended as FAULT), fault list and sensors are kept; outputs
are safe; the ANSWER is placed OK; LISTEN begins. RECHECK takes the oldest frame when it is a QUERY of code 8: for
this node in SAFE it is answered OK and the node enters CHECK with every result NOT_TESTED, ARM_WAIT clear and the
intake cleared; in another state it is answered REFUSED_STATE. QUERY_UNKNOWN_CODE takes a QUERY that fits no layout
and discards it, leaves one of a known code to its own command, and answers any other for this node UNKNOWN. The
model's choices in it: logs 3, 18, 27, 36, 39, 41, 42. -/
def Obligations.ControlQueriesActByState : Prop :=
  (∀ (s : State), ∃ t, exec .restart s = .next t ∧
      (match headQuery s with
      | none => t = s
      | some (q, mine) =>
        if q.code ≠ 7 then t = s
        else match mine, stationOf s with
          | true, some n =>
            if s.node.state = .cutoff then t = settle (answered n [byteOf q.asker, 7#8, 1#8] (popQueue s))
            else
              t.node.conflict = s.node.conflict ∧
              ((s.bus.slots.winch.held = none → lineKind s ≠ some .winch) → ∀ p ∈ s.node.position, RestartedAt p s t) ∧
              t.winch.log = (if roleOf s = .winch ∧ (s.winch.drum = .haulIn ∨ s.winch.drum = .payOut) then
                  endedLog s.winch.op .fault s
                else s.winch.log) ∧
              t.bus.slots.answer = ((slotRestarted (decide (lineKind s = some .answer)) s.bus.slots.answer).place
                (decide (lineKind s = some .answer)) { sender := n, payload := [byteOf q.asker, 7#8, 0#8] }).1
          | _, _ => t = settle (popQueue s))) ∧
  (∀ (s : State), ∃ t, exec .recheck s = .next t ∧
      SameButEntry { s with bus := { s.bus with
        queue := t.bus.queue, slots := { s.bus.slots with answer := t.bus.slots.answer }
        counters := { s.bus.counters with answerDrops := t.bus.counters.answerDrops } } } t ∧
      (match headQuery s with
      | none => t = s
      | some (q, mine) =>
        if q.code ≠ 8 then t = s
        else match mine, stationOf s with
          | true, some n =>
            if s.node.state = .safe then
              InCheckOrThrough t ∧ t.node.armWait = false ∧ t.intake = clearedIntake s.intake.record ∧
              t.bus.slots.answer = (answered n [byteOf q.asker, 8#8, 0#8] (popQueue s)).bus.slots.answer ∧
              t.bus.counters = (answered n [byteOf q.asker, 8#8, 0#8] (popQueue s)).bus.counters ∧
              t.monitor.record = CheckRecord.untested (decide (t.node.state = .check)) ∧
              t.monitor.withdrawn = s.monitor.withdrawn ∧ t.node.image = s.node.image
            else t = settle (answered n [byteOf q.asker, 8#8, 1#8] (popQueue s))
          | _, _ => t = settle (popQueue s))) ∧
  (∀ (s : State), ∃ t, exec .queryUnknownCode s = .next t ∧
      (match headOfKind .query s, headQuery s with
      | none, _ => t = s
      | some _, none => t = popQueue s
      | some _, some (q, mine) =>
        if 1 ≤ q.code ∧ q.code ≤ 8 then t = s
        else match mine, stationOf s with
          | true, some n => t = answered n [byteOf q.asker, byteOf q.code, 3#8] (popQueue s)
          | _, _ => t = popQueue s))

/-- O37. COMMAND takes the oldest frame when it is a COMMAND. Outside SAFE, RUN and FAILSAFE, from a station other
than the bound one, or misfitting its layout, it is discarded. A duplicate of the last-taken marker refreshes the link
alone. A new one is taken: values clamped to 1000 per mille, unknown mode codes keeping the mode held, marker, binding
and link age set. A neutral one arms SAFE (unless the effective level is CUTOFF) and returns FAILSAFE to RUN with the
ramp at 0; a non-neutral one sets ARM_WAIT in SAFE and leaves FAILSAFE as it is, unoffered to the steering unit. An
offered one gives the steering mode, active or pending, the indicator direction (beyond 300 per mille), the geometry
of the image, the position, the mode and the steer, and the presented target, 0 for a lost axle-mate. The model's
choices in it: logs 3, 21. -/
def Obligations.CommandsBindAndArm : Prop :=
  ∀ (s : State), ∃ t, exec .command s = .next t ∧
      (match headOfKind .command s with
      | none => t = s
      | some f =>
        if (s.node.state ≠ .safe ∧ s.node.state ≠ .run ∧ s.node.state ≠ .failsafe) ∨
            (s.intake.bound ≠ none ∧ s.intake.bound ≠ some f.sender) then t = settle (popQueue s)
        else match readCommand f.payload with
        | none => t = settle (popQueue s)
        | some c =>
          if s.intake.marker = some (f.sender, c.sequence) then
            t = settle { popQueue s with intake := { s.intake with bound := some f.sender, linkAge := some 0 } }
          else
            let r := takenRecord s.intake.record c
            let neutral := r.throttle.natAbs < (fieldsOf s).drive.throttleDeadband ∧ r.lever.natAbs < 100
            let arms := neutral ∧ (s.node.state = .failsafe ∨
              (s.node.state = .safe ∧ effectiveLevel s ≠ .cutoff))
            (r.throttle = max (-1000) (min 1000 c.throttle) ∧ r.steer = max (-1000) (min 1000 c.steer) ∧
              r.lever = max (-1000) (min 1000 c.lever) ∧ r.steerMode = c.steerMode.getD s.intake.record.steerMode ∧
              r.lights = c.lights.getD s.intake.record.lights ∧ r.hazard = c.hazard ∧ r.assist = c.assist ∧
              r.freespool = c.freespool) ∧
            t.intake = { bound := some f.sender, record := r, marker := some (f.sender, c.sequence)
                         linkAge := some 0, stage := if arms then .none else s.intake.stage } ∧
            SameButReport { popQueue s with
              intake := t.intake, steer := t.steer
              drive := if arms then { s.drive with ramped := 0, integrator := 0 } else s.drive
              node := { s.node with
                state := if arms then .run else s.node.state
                armWait := if arms then false else s.node.armWait || decide (s.node.state = .safe ∧ ¬ neutral)
                staging := if arms then [] else s.node.staging
                silenceTimer := if arms then none else s.node.silenceTimer
                defaultTimer := if arms then none else s.node.defaultTimer } } t ∧
            (s.node.state = .failsafe → ¬ neutral → t.steer = s.steer) ∧
            (s.node.state ≠ .failsafe ∨ neutral →
              let modes : SteerMode × Option SteerMode :=
                if r.steerMode = s.steer.mode then (s.steer.mode, none)
                else if r.steer.natAbs < 100 then (r.steerMode, none) else (s.steer.mode, some r.steerMode)
              let indicator : LeftRight := if 300 < r.steer then .right else if r.steer < -300 then .left else .none
              let plain : Geometry :=
                { mode := modes.1, straight := true, target := 0, side := .none, q := 1000, indicator }
              let geometry := match s.node.image, s.node.position with
                | some i, some p => if isCorner p then geometryOf i.fields p modes.1 r.steer indicator else plain
                | _, _ => plain
              let centred := (axleOf s).isSome && mateSteerLost s
              t.steer = { s.steer with
                mode := modes.1, pendingMode := modes.2, geometry, centered := centred
                presented := if centred then 0 else geometry.target
                lossCount := if arms then 0 else s.steer.lossCount }))

/-- O38. LINK_EXPIRY while bound with the link age at failsafe_timeout or above: in SAFE the binding drops and the
link age stops; in RUN the node enters FAILSAFE at stage 1, a winch node braking its drum and bridge A, in a trip wait
too, with bridge B OFF at once, and raises the FAILSAFE event; in FAILSAFE the binding drops. FAILSAFE_STAGE_2 in
FAILSAFE at stage 1 with the link age at ten times the timeout, 10000 ms at most, sets stage 2 and puts bridge B OFF
with the loop suspended. The link age, the record and the marker are kept, no fault is recorded. Unbound, at a lower
age (a COMMAND taken first has set it to 0), in another state or stage, nothing changes. The model's choices in it:
logs 2, 3, 18. -/
def Obligations.LostLinkBringsFailsafe : Prop :=
  (∀ (s : State), ∃ t, exec .linkExpiry s = .next t ∧
      SameButEntry s t ∧
      (let reached := (s.intake.linkAge.any fun age => decide ((fieldsOf s).drive.failsafeTimeout ≤ age)) = true
      if s.intake.bound = none ∨ ¬ reached then t = s
      else match s.node.state with
      | .safe => t = { s with intake := { s.intake with bound := none, linkAge := none } }
      | .failsafe => t = { s with intake := { s.intake with bound := none } }
      | .run =>
        t.node.state = .failsafe ∧ t.monitor.faults = s.monitor.faults ∧
        t.intake = { s.intake with bound := none, stage := .one } ∧
        (eventSelected s .failsafeEntry = true → s.node.position ≠ none →
          t.node.sequence = (s.node.sequence + 1) % 16 ∨ t.node.heldEvent = true) ∧
        if roleOf s = .winch then
          t.winch.drum = (if s.winch.drum = .withdrawn then .withdrawn else .braked) ∧ t.winch.op = none ∧
          t.winch.log = (if s.winch.drum = .haulIn ∨ s.winch.drum = .payOut then endedLog s.winch.op .failsafe s
            else s.winch.log) ∧
          t.bridgeB.active = ⟨.off, 0⟩ ∧ t.bridgeB.next = ⟨.off, 0⟩ ∧ BrakedAtOnce s t ∧
          t.drive.tripWait = s.drive.tripWait ∧ DrumShown s t
        else
          SameButReport { s with
            intake := t.intake, steer := { s.steer with lossCount := 0 }
            node := { s.node with
              state := .failsafe, staging := [], silenceTimer := none, defaultTimer := none, armWait := false } } t
      | .strap => t = s
      | .listen => t = s
      | .check => t = s
      | .cutoff => t = s
      | .conflict => t = s)) ∧
  (∀ (s : State), ∃ t, exec .failsafeStage2 s = .next t ∧
      (let reached := (s.intake.linkAge.any fun age =>
        decide (min 10000 (10 * (fieldsOf s).drive.failsafeTimeout) ≤ age)) = true
      if s.node.state = .failsafe ∧ s.intake.stage = .one ∧ reached then
        t = { s with
          intake := { s.intake with stage := .two }
          steer := { s.steer with loop := false }
          bridgeB := t.bridgeB } ∧
        t.bridgeB.active = ⟨.off, 0⟩ ∧ t.bridgeB.next = ⟨.off, 0⟩
      else t = s))

/-! ## The power supervisor (spec 05) -/

/-- O39. BUDGET_TICK of a running supervisor: readings clamped, the peer sums and count over the entries the table
still holds, the four demands and D_own (the averaged current of a bridge that drove or braked by drag, with 10 dA
more when its ceiling cut it, 0 when withdrawn or idle; each lamp's rating at its peak level), G decayed to 9/10,
I_total, drop, V_rest and the cell figure of stages 1 to 3, the effective level of stage 0 recorded (CUTOFF when it
enters CUTOFF), A, missing nodes, absent share and total demand, the share with its overdraw correction, the bounds
(floor, cap, 0 in CUTOFF level or outside SAFE, RUN and FAILSAFE). Without an entry to CUTOFF nothing else changes but
the marks of use and of ceiling cuts. A stopped supervisor runs no tick. The model's choices in it: logs 3, 13, 31,
33. -/
def Obligations.BudgetTickSharesTheCurrent : Prop :=
  ∀ (readings : BudgetReadings) (s : State), ∃ t, exec (.budgetTick readings) s = .next t ∧
      SameButEntry { s with
          pins := t.pins, peers := t.peers, power := t.power
          bus := { s.bus with
            rx := t.bus.rx, slots := { s.bus.slots with answer := t.bus.slots.answer }
            tx := { s.bus.tx with breakLeft := t.bus.tx.breakLeft, attempt := t.bus.tx.attempt } }
          drive := { s.drive with limited := t.drive.limited }, steer := { s.steer with limited := t.steer.limited }
          winch := { s.winch with drumLimited := t.winch.drumLimited, solenoidLimited := t.winch.solenoidLimited } } t ∧
      (if s.power.running = false then
        t = { s with pins := { s.pins with
              vpack := readings.vpack, isa := readings.isa, isb := readings.isb, lampAmps := readings.lamps
              cells := readings.cells } }
      else
        let f := fieldsOf s
        let p := t.power
        let count := s.peers.table.length
        let share := if p.sumDemand ≤ p.avail then p.dOwn + (p.avail - p.sumDemand) / f.vehicle.expectedNodes
          else p.avail * p.dOwn / p.sumDemand
        let corrected := if p.avail < p.iTotal then share * p.avail / p.iTotal else share
        t.peers = { s.peers with reserve := s.peers.reserve * 9 / 10 } ∧
        (p.vNode : Int) = max 0 (min 25500 readings.vpack) ∧
        p.iOwn = min 1000 (min 1000 readings.isa + min 1000 readings.isb +
          (min 1000 readings.lamps.l0 + min 1000 readings.lamps.l1 + min 1000 readings.lamps.l2 +
            min 1000 readings.lamps.l3)) ∧
        p.demands = demandsAt readings s ∧ (∀ l, p.lampDemands.get l = demandOfLamp s l) ∧
        p.dOwn = min 1000 (p.demands.bridgeB + p.demands.required + p.demands.bridgeA + p.demands.aux) ∧
        p.iTotal = p.iOwn + (s.peers.table.map PeerEntry.current).sum + t.peers.reserve ∧
        p.drop = (p.iTotal * f.power.rInt + 5) / 10 ∧ p.vRest = min 25500 (p.vNode + p.drop) ∧
        p.cellFigure = p.vRest / f.vehicle.cellCount ∧
        p.tickLevel = (if t.node.state = .cutoff then .cutoff else worse s.power.level (worstPeerLevel s.peers)) ∧
        p.avail = (f.power.packLimit * (match p.tickLevel with
          | .normal => 100
          | .derate => 70
          | .limp => 40
          | .cutoff => 0) + 50) / 100 - f.power.reserve ∧
        p.missing = f.vehicle.expectedNodes - 1 - count ∧ p.absentShare = p.avail / f.vehicle.expectedNodes ∧
        p.sumDemand = p.dOwn + (s.peers.table.map PeerEntry.demand).sum
          + p.missing * p.absentShare + t.peers.reserve ∧
        p.overdraw = decide (p.avail < p.iTotal) ∧
        p.allowance = (if p.tickLevel = .cutoff ∨ (t.node.state ≠ .safe ∧ t.node.state ≠ .run ∧ t.node.state ≠ .failsafe)
          then 0 else min (allowanceCap s) (max f.power.floor corrected)) ∧
        (t.node.state = s.node.state ∨ t.node.state = .cutoff) ∧
        (t.node.state = s.node.state → SameButReport { s with
          pins := { s.pins with
            vpack := readings.vpack, isa := readings.isa, isb := readings.isb, lampAmps := readings.lamps
            cells := readings.cells }
          peers := t.peers, power := t.power
          bridgeA := { s.bridgeA with used := drivesMode s.bridgeA.active.mode }
          bridgeB := { s.bridgeB with used := drivesMode s.bridgeB.active.mode }
          drive := { s.drive with limited := false }, steer := { s.steer with limited := false }
          winch := { s.winch with drumLimited := false, solenoidLimited := false } } t))

/-- O40. After every budget tick of a running supervisor each grant is the lesser of its demand and what the grants
before it leave of the allowance; a later consumer receives something only when every earlier one is served in full;
the grants never sum to more than the allowance, and an allowance of 0 gives four grants of 0. -/
def Obligations.GrantsFollowTheOrder : Prop :=
  ∀ (readings : BudgetReadings) (s : State), s.power.running = true →
    ∃ t, exec (.budgetTick readings) s = .next t ∧
      let g := t.power.grants
      let d := t.power.demands
      let a := t.power.allowance
      g.bridgeB = min d.bridgeB a ∧ g.required = min d.required (a - g.bridgeB) ∧
      g.bridgeA = min d.bridgeA (a - g.bridgeB - g.required) ∧
      g.aux = min d.aux (a - g.bridgeB - g.required - g.bridgeA) ∧
      (0 < g.required → g.bridgeB = d.bridgeB) ∧
      (0 < g.bridgeA → g.bridgeB = d.bridgeB ∧ g.required = d.required) ∧
      (0 < g.aux → g.bridgeB = d.bridgeB ∧ g.required = d.required ∧ g.bridgeA = d.bridgeA) ∧
      g.bridgeB + g.required + g.bridgeA + g.aux ≤ a ∧
      (a = 0 → g.bridgeB = 0 ∧ g.required = 0 ∧ g.bridgeA = 0 ∧ g.aux = 0)

/-- O41. Stage 4 of the budget tick: the falling counters and the hard_min counter rise while their condition holds
and are 0 otherwise; hard_min at 10 or cutoff at 100 make the level CUTOFF, limp at 25 LIMP, derate at 25 or IMBALANCE
DERATE; LIMP and DERATE rise one level at the 200th qualifying tick, and any change sets the rise counter to 0.
Outside STRAP and CUTOFF the node enters CUTOFF with cause OWN_CELL, OWN_PACK or PEER, in that order, and drives a
break of 30 bit times for an own cause alone. PEER_CUTOFF_TEST with the supervisor stopped: a FRESH entry in CUTOFF by
level or by state puts a node outside STRAP and CUTOFF into CUTOFF with cause PEER, without a break; otherwise only
the test's timer restarts and the step settles its events. A running supervisor makes the test in its tick, and the
command changes nothing. The model's choices in it: logs 3, 31, 33. -/
def Obligations.LevelsFallToCutoff : Prop :=
  (∀ (readings : BudgetReadings) (s : State), ∃ t, exec (.budgetTick readings) s = .next t ∧
      (let f := fieldsOf s
      let p := t.power
      let was := s.power
      let imb := match p.cells with
        | none => false
        | some c => decide (f.power.imbalanceLimit < c.spread)
      let low := match p.cells with
        | none => false
        | some c => decide (c.lowest + p.drop / f.vehicle.cellCount < f.power.hardMin)
      let fell : Protection :=
        if p.dwell.hardMin = 10 ∨ p.dwell.cutoff = 100 then .cutoff
        else if p.dwell.limp = 25 ∧ levelRank was.level < 2 then .limp
        else if was.level = .normal ∧ (p.dwell.derate = 25 ∨ imb = true) then .derate
        else was.level
      let rises := fell = was.level ∧
        ((was.level = .derate ∧ f.power.derate + f.power.hysteresis ≤ p.cellFigure ∧ imb = false) ∨
          (was.level = .limp ∧ f.power.limp + f.power.hysteresis ≤ p.cellFigure))
      was.running = true →
        p.dwell.derate = (if p.cellFigure < f.power.derate then min 25 (was.dwell.derate + 1) else 0) ∧
        p.dwell.limp = (if p.cellFigure < f.power.limp then min 25 (was.dwell.limp + 1) else 0) ∧
        p.dwell.cutoff = (if p.cellFigure < f.power.cutoff then min 100 (was.dwell.cutoff + 1) else 0) ∧
        p.dwell.hardMin = (if low then min 10 (was.dwell.hardMin + 1) else 0) ∧ p.imbalance = imb ∧
        (p.cells.isSome ↔ s.node.packMonitor = true) ∧
        p.level = (if rises ∧ 199 ≤ was.dwell.rise then (if was.level = .limp then .derate else .normal) else fell) ∧
        p.dwell.rise = (if rises ∧ was.dwell.rise < 199 then was.dwell.rise + 1 else 0) ∧
        (s.node.state ≠ .strap → s.node.state ≠ .cutoff →
          if p.dwell.hardMin = 10 ∨ p.dwell.cutoff = 100 then
            t.node.state = .cutoff ∧ t.bus.tx.breakLeft = some (s.bus.tx.breakLeft.getD 30) ∧
            p.cause = some (if p.dwell.hardMin = 10 then .ownCell else .ownPack)
          else if s.peers.table.any (fun e => e.age ≤ 60 && (e.level = .cutoff || e.state = .cutoff)) then
            t.node.state = .cutoff ∧ p.cause = some .peer ∧ t.bus.tx.breakLeft = s.bus.tx.breakLeft
          else t.node.state = s.node.state ∧ p.cause = was.cause))) ∧
  (∀ (s : State), ∃ t, exec .peerCutoffTest s = .next t ∧
      SameButEntry { s with power := { s.power with cause := t.power.cause, timer := t.power.timer } } t ∧
      (if s.power.running = true then t = s
      else if s.peers.table.any (fun e => e.age ≤ 60 && (e.level = .cutoff || e.state = .cutoff)) ∧
          s.node.state ≠ .strap ∧ s.node.state ≠ .cutoff then
        t.node.state = .cutoff ∧ t.power.cause = some .peer ∧ t.bus.tx.breakLeft = s.bus.tx.breakLeft ∧
        t.intake = clearedIntake s.intake.record ∧
        HeldSafe (safeHold s.monitor.withdrawn.bridgeA s.monitor.holdA (roleOf s)) t
      else t = settle { s with power := { s.power with timer := 0 } }))

/-- O42. From every state but STRAP and CUTOFF: the CHECK sequence, the staging image and the timers end, bridge B is
OFF and bridge A in its safe hold, the drum of a winch node brakes unless withdrawn, the intake is cleared, the
allowance and grants are 0, the newest fault record carries the cause and the state left, every channel is dark, with
CUTOFF pending on each MARKER and TAILBRAKE channel neither withdrawn nor absent and on no other, and a break of 30
bit times is driven for an own cause alone. BREAK_RECOGNISED: the receiver hunts, the queue and the counters stand. A
run that holds a bit time of the node's own break changes nothing more; in STRAP and CUTOFF the break changes no unit;
in any other state the node enters CUTOFF with cause BREAK, the fault record carries the state left, and the node
sends no break of its own. The model's choices in it: log 8. -/
def Obligations.CutoffEntryHoldsTheOutputs : Prop :=
  (∀ (cause : CutoffCause) (s : State), s.node.state ≠ .strap → s.node.state ≠ .cutoff →
    let t := enterCutoff cause s
    t.node.state = .cutoff ∧ t.power.cause = some cause ∧ t.monitor.position = none ∧ t.node.staging = [] ∧
    t.node.silenceTimer = none ∧ t.node.defaultTimer = none ∧ t.node.armWait = false ∧ t.node.noticeTimer = none ∧
    HeldSafe (safeHold s.monitor.withdrawn.bridgeA s.monitor.holdA (roleOf s)) t ∧
    t.steer.calibration = s.steer.calibration ∧
    (roleOf s = .winch → t.winch.drum = (if s.winch.drum = .withdrawn then .withdrawn else .braked) ∧ t.winch.op = none) ∧
    t.intake = clearedIntake s.intake.record ∧ t.power.allowance = 0 ∧ t.power.grants = Consumers.zero ∧
    t.monitor.faults = ({ kind := .cutoff, output := .none, state := s.node.state, uptime := s.node.uptime
                          detail := cutoffCauseCode cause } :: s.monitor.faults).take 8 ∧
    t.monitor.record = { s.monitor.record with inProgress := false } ∧
    (∀ l, t.lights.channels.get l =
      { function := (s.lights.channels.get l).function, current := .off, staged := 0, active := 0
        pending := if functionOf s l = some .marker ∨ functionOf s l = some .tailbrake then some (.show .cutoff 64)
          else none }) ∧
    t.node.image = s.node.image ∧ t.peers = s.peers ∧ t.bus.queue = s.bus.queue ∧
    t.bus.tx.breakLeft =
      if cause = .ownCell ∨ cause = .ownPack then some (s.bus.tx.breakLeft.getD 30) else s.bus.tx.breakLeft) ∧
  (∀ (s : State), ∃ t, exec .breakRecognised s = .next t ∧
      SameButEntry { s with bus := { s.bus with rx := t.bus.rx }, power := { s.power with cause := t.power.cause } } t ∧
      (t.bus.rx = { s.bus.rx with
        state := .hunt, recessiveRun := 0, dominantRun := 20, exempt := false, echo := false, ownBreak := false } ∧
      t.bus.queue = s.bus.queue ∧ t.bus.counters = s.bus.counters ∧
      t.bus.tx.breakLeft = s.bus.tx.breakLeft ∧
      if s.bus.rx.ownBreak = true ∨ s.bus.tx.breakLeft ≠ none then t = { s with bus := { s.bus with rx := t.bus.rx } }
      else if s.node.state = .strap ∨ s.node.state = .cutoff then
        SameButReport { s with bus := { s.bus with rx := t.bus.rx } } t
      else t.node.state = .cutoff ∧ t.power.cause = some .breakHeard ∧
        t.monitor.faults = ({ kind := .cutoff, output := .none, state := s.node.state, uptime := s.node.uptime
                              detail := 2 } :: s.monitor.faults).take 8 ∧
        HeldSafe (safeHold s.monitor.withdrawn.bridgeA s.monitor.holdA (roleOf s)) t))

/-! ## Steering and drive (spec 06, 07) -/

/-- O43. With i the angle divided by 30 and f the rest, the tangent is T[i] + ((T[i+1] - T[i]) x f + 15) / 30; at 450
it is 4096, at a step angle it is the table entry, 21.0 degrees give 1572 and 0.4 degrees give 29. For t of 4096 or
more the angle is 450; otherwise, with T[i] <= t < T[i+1] and h half the step, the angle is 30 x i + ((t - T[i]) x 30
+ h) / (T[i+1] - T[i]); t = 1212 gives 165 tenths. -/
def Obligations.AnglesInterpolateTheTable : Prop :=
  (let T := [0, 215, 431, 649, 871, 1098, 1331, 1572, 1824, 2087, 2365, 2660, 2976, 3317, 3688, 4096]
  (∀ i f : Nat, i < 15 → f < 30 →
    tanOf (30 * i + f) = T.getD i 0 + ((T.getD (i + 1) 0 - T.getD i 0) * f + 15) / 30) ∧
  tanOf 450 = 4096 ∧ (∀ i : Nat, i ≤ 15 → tanOf (30 * i) = T.getD i 0) ∧ tanOf 210 = 1572 ∧ tanOf 4 = 29) ∧
  (let T := [0, 215, 431, 649, 871, 1098, 1331, 1572, 1824, 2087, 2365, 2660, 2976, 3317, 3688, 4096]
  (∀ t : Nat, 4096 ≤ t → atanOf t = 450) ∧
  (∀ i t : Nat, i < 15 → T.getD i 0 ≤ t → t < T.getD (i + 1) 0 →
    atanOf t = 30 * i + ((t - T.getD i 0) * 30 + (T.getD (i + 1) 0 - T.getD i 0) / 2) / (T.getD (i + 1) 0 - T.getD i 0)) ∧
  atanOf 1212 = 165)

/-- O44. For every image in its ranges, position, mode and steer of -1000 to 1000, the geometry target is at most the
limit of the wheel's axle, and 0 for a wheel that does not steer; the speed ratio is at most 1000, and 1000 in CRAB
and in a straight turn. Every step keeps the geometry target, the presented target and the actuator target within the
limit of the node's axle, and 0 without an image or a position. The model's choices in it: log 21. -/
def Obligations.WheelAnglesStayInTheirLimits : Prop :=
  (∀ (i : Image) (p : Position) (m : SteerMode) (x : Int) (ind : LeftRight), PowerRanges i → MotionRanges i →
    inPerMille x →
    let g := geometryOf i p m x ind
    g.mode = m ∧ g.indicator = ind ∧ g.q ≤ 1000 ∧
    (match axleAt i.vehicle p with
      | none => g.target = 0
      | some a => g.target.natAbs ≤ axleLim i.steer a ∧ (steersIn i.steer m a = false → g.target = 0)) ∧
    (g.straight = true → g.target = 0 ∧ g.q = 1000 ∧ g.side = .none) ∧ (m = .crab → g.q = 1000 ∧ g.side = .none)) ∧
  (∀ s t : State, OutputsInv s → SteerInv s → step s = .next t → SteerInv t)

/-- O45. ACTUATOR_TICK on a corner: the angle follows the calibration, the presented target is the geometry's, or 0
for a lost axle-mate. Where the loop may not run, a running loop stops with bridge B OFF. Where it runs, the actuator
target starts at the measured angle and moves by the slew, the ceiling moves by 50 down or 10 up, and the duty is kp_s
x error / 16 outside the deadband, cut to the ceiling and, under a stall limit or at a stall, to 300; 0 is BRAKE. The
stall window opens while the error is above 30 tenths and the duty 400 or more, starts afresh when the angle has moved
5 tenths, and at 300 ms is a stall: the limit for 1000 ms, and at the third stall within 10 s a STEER_STALL record.
Every other steering field stands. On another role only the pins change. The model's choices in it: logs 3, 28, 43. -/
def Obligations.ActuatorTickRunsTheLoop : Prop :=
  ∀ (pot isb : Nat) (s : State), ∃ t, exec (.actuatorTick pot isb) s = .next t ∧
      (let f := (fieldsOf s).steer
      let lim := axleLimit s
      let centred := (s.node.state = .safe ∨ s.node.state = .run ∨ s.node.state = .failsafe) ∧
        (axleOf s).isSome = true ∧ mateSteerLost s = true
      let runs := s.steer.calibration ≠ none ∧ s.monitor.withdrawn.bridgeB = false ∧ s.steer.steerLost = false ∧
        (s.node.state = .run ∨ (s.node.state = .failsafe ∧ s.intake.stage = .one)) ∧
        thermalClass s ≠ .shutdown ∧ s.monitor.tripWait = none
      if roleOf s ≠ .corner then t = { s with pins := { s.pins with pot, isb } }
      else
        t.pins = { s.pins with pot, isb } ∧ t.steer.timer = 0 ∧ t.steer.geometry = s.steer.geometry ∧
        t.steer.measured = (match s.steer.calibration with
          | none => s.steer.measured
          | some c => rdiv (((pot : Int) - rdivNat (c.left + c.right) 2) * 2 * f.steerStop) ((c.right : Int) - c.left)) ∧
        t.steer.centered = decide centred ∧ t.steer.presented = (if centred then 0 else s.steer.geometry.target) ∧
        if ¬ runs then
          t = { s with
            pins := t.pins
            steer := { s.steer with
              timer := 0, measured := t.steer.measured, centered := t.steer.centered, presented := t.steer.presented
              loop := false }
            bridgeB := t.bridgeB } ∧
          (if s.steer.loop then t.bridgeB.active = ⟨.off, 0⟩ ∧ t.bridgeB.next = ⟨.off, 0⟩ else t.bridgeB = s.bridgeB)
        else
          let start := if s.steer.loop then s.steer.actuator else clampInt (-lim) lim t.steer.measured
          let err := t.steer.actuator - t.steer.measured
          let ceiling : Int := t.steer.ceiling
          let raw := if err.natAbs ≤ f.steerDeadband then 0 else rdiv (f.kpS * err) 16
          let cut := clampInt (-ceiling) ceiling raw
          let limited := s.steer.loop = true ∧ (s.steer.stallLimit.any fun e => decide (s.now < e)) = true
          let duty := if limited then clampInt (-300) 300 cut else cut
          let pushing := 30 < err.natAbs ∧ 400 ≤ duty.natAbs
          let stalls := s.steer.loop = true ∧ pushing ∧
            (s.steer.stallWindow.any fun w =>
              decide ((t.steer.measured - w.angle).natAbs < 5 ∧ 300 ≤ s.now - w.start)) = true
          let keeps := s.steer.loop = true ∧
            (s.steer.stallWindow.any fun w => decide ((t.steer.measured - w.angle).natAbs < 5)) = true
          let recent := s.steer.stallHistory.filter fun x => s.now - x ≤ 10000
          let out := if stalls then clampInt (-300) 300 duty else duty
          t.steer.loop = true ∧ t.steer.actuator = approach start t.steer.presented f.steerSlew ∧
          t.steer.ceiling = (if s.power.grants.bridgeB < isb then s.steer.ceiling - 50
            else min 1000 (s.steer.ceiling + 10)) ∧
          t.steer.limited = (s.steer.limited || decide (cut ≠ raw)) ∧
          t.bridgeB = { s.bridgeB with next :=
            if 0 < out then ⟨.fwd, out.toNat⟩ else if out < 0 then ⟨.rev, (-out).toNat⟩ else ⟨.brake, 0⟩ } ∧
          t.steer = { s.steer with
            timer := 0, measured := t.steer.measured, centered := t.steer.centered, presented := t.steer.presented
            loop := true, actuator := t.steer.actuator, ceiling := t.steer.ceiling, limited := t.steer.limited
            stallWindow := if stalls ∨ ¬ pushing then none else if keeps then s.steer.stallWindow
              else some { start := s.now, angle := t.steer.measured }
            stallLimit := if stalls then some (s.now + 1000) else if limited then s.steer.stallLimit else none
            stallHistory := if ¬ stalls then s.steer.stallHistory else if 2 ≤ recent.length then []
              else recent ++ [s.now] } ∧
          t.monitor.faults = (if stalls ∧ 2 ≤ recent.length then
              ({ kind := .steerStall, output := .bridgeB, state := s.node.state, uptime := s.node.uptime
                 detail := clampInt (-32768) 32767 err } :: s.monitor.faults).take 8
            else s.monitor.faults) ∧
          SameButReport { s with
            pins := t.pins, steer := t.steer, bridgeB := t.bridgeB
            monitor := { s.monitor with faults := t.monitor.faults } } t)

/-- O46. STEER_STALL with the loop running and a window open limits the duty to 300 for 1000 ms, closes the window,
and at the third stall within 10 s adds a STEER_STALL record and empties the history. STALL_LIMIT_END lifts the limit.
STEER_SENSOR_LOST on a calibrated corner in SAFE, RUN or FAILSAFE with the sample out of range sets STEER_LOST, puts
bridge B OFF and adds a STEER_SENSOR record. Otherwise nothing changes. The model's choices in it: logs 2, 3, 28, 44.
-/
def Obligations.StallAndSensorLossAct : Prop :=
  (∀ (s : State), ∃ t, exec .steerStall s = .next t ∧
      (let recent := s.steer.stallHistory.filter fun x => s.now - x ≤ 10000
      if s.steer.loop = false ∨ s.steer.stallWindow = none then t = s
      else
        t.steer.stallLimit = some (s.now + 1000) ∧ t.steer.stallWindow = none ∧
        t.bridgeB = { s.bridgeB with next := ⟨s.bridgeB.next.mode, min 300 s.bridgeB.next.duty⟩ } ∧
        t.steer.stallHistory = (if 2 ≤ recent.length then [] else recent ++ [s.now]) ∧
        SameButReport { s with
          bridgeB := t.bridgeB, monitor := { s.monitor with faults := t.monitor.faults }
          steer := { s.steer with
            stallLimit := t.steer.stallLimit, stallWindow := none, stallHistory := t.steer.stallHistory } } t ∧
        t.monitor.faults =
          if 2 ≤ recent.length then
            ({ kind := .steerStall, output := .bridgeB, state := s.node.state, uptime := s.node.uptime
               detail := clampInt (-32768) 32767 (s.steer.actuator - s.steer.measured) } :: s.monitor.faults).take 8
          else s.monitor.faults)) ∧
  (∀ (s : State), ∃ t, exec .stallLimitEnd s = .next t ∧
      t = { s with steer := { s.steer with stallLimit := none } }) ∧
  (∀ (pot : Nat) (s : State), ∃ t, exec (.steerSensorLost pot) s = .next t ∧
      (if roleOf s = .corner ∧ s.steer.calibration ≠ none ∧ s.steer.steerLost = false ∧ (pot < 100 ∨ 3995 < pot) ∧
          (s.node.state = .safe ∨ s.node.state = .run ∨ s.node.state = .failsafe) then
        t.steer = { s.steer with steerLost := true, lossCount := 20, loop := false } ∧
        t.bridgeB.active = ⟨.off, 0⟩ ∧ t.bridgeB.next = ⟨.off, 0⟩ ∧
        t.monitor.faults = ({ kind := .steerSensor, output := .bridgeB, state := s.node.state
                              uptime := s.node.uptime, detail := min 32767 pot } :: s.monitor.faults).take 8 ∧
        SameButReport { s with
          pins := { s.pins with pot }, steer := t.steer, bridgeB := t.bridgeB
          monitor := { s.monitor with faults := t.monitor.faults } } t
      else t = s))

/-- O47. When an image comes into force on a corner the circumference is (diameter x 355 + 56) / 113 and v_max_cps is
(v_max x counts_per_rev + circumference / 2) / circumference; the default image gives 346 and 1561; on another role
there are none; every step keeps the figures those of the image in force on a corner, and absent otherwise, as at
reset; for an image in its ranges they lie in 126 to 785 mm and 2 to 162540 cps; while absent, no target is computed
and the reported speed is 0. -/
def Obligations.WheelFiguresFollowTheImage : Prop :=
  (∀ (img : ImageInForce) (s : State), roleOf (applyImage img s) = .corner → (applyImage img s).drive.figures = some
    { circumference := (img.fields.drive.wheelDiameter * 355 + 56) / 113
      vMaxCps := (img.fields.drive.vMax * img.fields.drive.countsPerRev
        + (img.fields.drive.wheelDiameter * 355 + 56) / 113 / 2) / ((img.fields.drive.wheelDiameter * 355 + 56) / 113) }) ∧
  (∀ (img : ImageInForce) (s : State), roleOf (applyImage img s) ≠ .corner → (applyImage img s).drive.figures = none) ∧
  wheelFigures defaultFields.drive = { circumference := 346, vMaxCps := 1561 } ∧
  (∀ s t : State, FiguresInv s → step s = .next t → FiguresInv t) ∧ FiguresInv State.reset ∧
  (∀ i : Image, MotionRanges i →
    126 ≤ (wheelFigures i.drive).circumference ∧ (wheelFigures i.drive).circumference ≤ 785 ∧
    2 ≤ (wheelFigures i.drive).vMaxCps ∧ (wheelFigures i.drive).vMaxCps ≤ 162540) ∧
  (∀ (s : State) (x : Int), s.drive.figures = none →
    throttleTarget s x = 0 ∧ assistTarget s = none ∧ wheelSpeed s x = 0)

/-- O48. DRIVE_TICK on a corner takes the first matching row of Table 7-2: withdrawn, trip wait, not in RUN, thermal
SHUTDOWN, assist without a target, neutral, reversal, encoder lost, closed loop. The holding rows leave target,
integrator and ramp at 0 and the ceiling unmoved; the others move the ramp by the throttle ramp (0 under assist) and
the ceiling by 50 down or 10 up. Bridge A gets BRAKE, DRAG, or a duty cut to the ceiling, and BRAKE where the duty
opposes the target. On the winch position the tick forms the measured speed alone. After a drive tick of a corner,
REVERSING is set exactly while the active setting is REV, BRAKING while it is BRAKE or DRAG at 30 mm/s or more or when
the magnitude of the ramped throttle is below that of the previous tick, and the ASSIST flag of a REPORT while assist
is in force in RUN. A change of BRAKING in a state that reports, when selected, is a REPORT at once or a held event;
without a change, and with no encoder loss, no event is raised. The model's choices in it: logs 3, 17, 18, 26, 35, 40.
-/
def Obligations.DriveTickFollowsItsTable : Prop :=
  (∀ (isa : Nat) (s : State), ∃ t, exec (.driveTick isa) s = .next t ∧
      (let f := (fieldsOf s).drive
      let m := measuredSpeed s.drive
      let assist := s.node.state = .run ∧ s.intake.record.assist = true
      let hard := (s.bridgeA.active.mode = .fwd ∨ s.bridgeA.active.mode = .rev) ∧ 300 < s.bridgeA.active.duty
      let lost := s.drive.encoderLost = true ∨ (hard ∧ 495 ≤ s.drive.lossWatch)
      let testing := s.monitor.waiting = false ∧ (s.monitor.position = some .pullDownA ∨
        s.monitor.position = some .pullUpA ∨ s.monitor.position = some .loadA)
      let ramped := if assist then 0 else approach s.drive.ramped s.intake.record.throttle f.throttleRamp
      let ceiling := if s.power.grants.bridgeA < isa then s.drive.ceiling - 50 else min 1000 (s.drive.ceiling + 10)
      let target := if assist then (assistTarget s).getD 0
        else match s.drive.figures with
          | none => 0
          | some w => rdiv (ramped * w.vMaxCps * s.steer.geometry.q) 1000000
      let err := target - m
      let integ := clampInt (-1000) 1000 ((if lost then 0 else s.drive.integrator) + rdiv (err * f.ki) 64)
      let raw := if lost then clampInt (-500) 500 (rdiv (target * f.kf) 1024)
        else rdiv (target * f.kf) 1024 + rdiv (err * f.kp) 64 + integ
      let duty := clampInt (-(ceiling : Int)) ceiling raw
      let driven : Setting := if 0 < duty then ⟨.fwd, duty.toNat⟩ else if duty < 0 then ⟨.rev, (-duty).toNat⟩ else ⟨.brake, 0⟩
      let holds := t.drive.target = 0 ∧ t.drive.integrator = 0 ∧ t.drive.ramped = 0 ∧ t.drive.ceiling = s.drive.ceiling
      let moves := t.drive.ramped = ramped ∧ t.drive.ceiling = ceiling
      match roleOf s with
      | .plain => t = { s with pins := { s.pins with isa }, drive := { s.drive with timer := 0 } }
      | .unplaced => t = { s with pins := { s.pins with isa }, drive := { s.drive with timer := 0 } }
      | .winch => t = { s with pins := { s.pins with isa }, drive := { s.drive with timer := 0, measured := m } }
      | .corner =>
        t.drive.measured = m ∧ t.drive.encoderLost = decide lost ∧
        t.drive.speed = (match s.drive.figures with
          | none => 0
          | some w => rdiv (m * w.circumference) f.countsPerRev) ∧
        t.bridgeA.active = s.bridgeA.active ∧ t.bridgeA.used = s.bridgeA.used ∧
        SameButReport { s with
          pins := { s.pins with isa }, drive := t.drive, bridgeA := t.bridgeA
          monitor := { s.monitor with faults := t.monitor.faults } } t ∧
        if s.monitor.withdrawn.bridgeA = true then
          t.drive.condition = .held ∧ holds ∧ t.bridgeA.next = ⟨s.monitor.holdA.getD .off, 0⟩
        else if s.drive.tripWait ≠ none then t.drive.condition = .tripWait ∧ holds ∧ t.bridgeA.next = s.bridgeA.next
        else if s.node.state ≠ .run then
          t.drive.condition = .held ∧ holds ∧ t.bridgeA.next = (if testing then s.bridgeA.next else ⟨.brake, 0⟩)
        else if thermalClass s = .shutdown then t.drive.condition = .held ∧ holds ∧ t.bridgeA.next = ⟨.brake, 0⟩
        else if assist ∧ assistTarget s = none then t.drive.condition = .stop ∧ holds ∧ t.bridgeA.next = ⟨.brake, 0⟩
        else if ¬ assist ∧ ramped.natAbs < f.throttleDeadband then
          t.drive.condition = .neutral ∧ moves ∧ t.drive.target = 0 ∧ t.drive.integrator = 0 ∧ t.bridgeA.next = ⟨.drag, 0⟩
        else if target * m < 0 ∧ 40 < m.natAbs then
          t.drive.condition = .reversalHold ∧ moves ∧ t.drive.target = target ∧ t.drive.integrator = 0 ∧
          t.bridgeA.next = ⟨.brake, 0⟩
        else if lost then
          t.drive.condition = .openLoop ∧ moves ∧ t.drive.target = target ∧ t.drive.integrator = 0 ∧ t.bridgeA.next = driven
        else
          t.drive.condition = .loop ∧ moves ∧ t.drive.target = target ∧ t.drive.integrator = integ ∧
          t.bridgeA.next = if duty * target < 0 then ⟨.brake, 0⟩ else driven)) ∧
  (∀ (isa : Nat) (s : State), ∃ t, exec (.driveTick isa) s = .next t ∧
      (roleOf s = .corner →
        t.drive.reversing = decide (s.bridgeA.active.mode = .rev) ∧
        (reportFlags t).getD 7 false = decide (s.node.state = .run ∧ s.intake.record.assist = true) ∧
        t.drive.braking = decide (((s.bridgeA.active.mode = .brake ∨ s.bridgeA.active.mode = .drag) ∧
          30 ≤ t.drive.speed.natAbs) ∨ t.drive.ramped.natAbs < s.drive.tickRamped) ∧
        t.drive.prevRamped = s.drive.tickRamped ∧ t.drive.tickRamped = t.drive.ramped.natAbs ∧
        (t.drive.braking ≠ s.drive.braking → eventSelected s .brakingChange = true → reportsNow s = true →
          t.node.sequence = (s.node.sequence + 1) % 16 ∨ t.node.heldEvent = true) ∧
        (t.drive.braking = s.drive.braking → t.drive.encoderLost = s.drive.encoderLost → s.node.eventDue = false →
          t.node = s.node)))

/-- O49. ENCODER_EDGE on a corner or the winch position: an edge of the last edge's direction captures its interval,
clamped to 1 to 250000 us, the latest moving to previous; any other empties the captures; the edge becomes the last,
the loss watch restarts. On a corner with the encoder lost, 8 edges in the target's direction in RUN recover it. On
the winch position the line-out count moves by line_mm_per_100_counts, the operation in progress keeps its first edge
of each direction, and a pay-out that reaches the soft limit ends AT_LIMIT_OUT, logged, with bridge A braked at once.
ENCODER_EDGE_TIMEOUT, 250 ms after the last edge, empties the captures. On other roles an edge changes nothing.
ENCODER_LOST on a corner whose encoder is not lost sets ENCODER_LOST, the recovery count and the integrator to 0, and
adds an ENCODER record with the active duty; ENCODER_RECOVERED on a corner in RUN while it is lost clears the flag,
with the recovery count at 8 and the integrator at 0. Otherwise nothing changes. TRIP_WAIT_END ends the trip wait,
PWM_PERIOD_BOUNDARY makes the next settings of both bridges active. The model's choices in it: logs 2, 3, 18, 23, 24,
28, 29. -/
def Obligations.EncoderEdgesAndLoss : Prop :=
  (∀ (dir : Direction) (interval : Nat) (s : State), ∃ t, exec (.encoderEdge dir interval) s = .next t ∧
      SameButEntry { s with
        drive := { s.drive with
          latest := t.drive.latest, previous := t.drive.previous, lastEdge := t.drive.lastEdge
          lossWatch := t.drive.lossWatch, recovery := t.drive.recovery, encoderLost := t.drive.encoderLost }
        winch := { s.winch with lineOut := t.winch.lineOut } } t ∧
      (let same := (s.drive.lastEdge.any fun e => decide (e.dir = dir)) = true
      let counts := if dir = .forward then s.winch.lineOut - (fieldsOf s).winch.lineMmPer100
        else min 3000000 (s.winch.lineOut + (fieldsOf s).winch.lineMmPer100)
      let soft := s.winch.drum = .payOut ∧ dir = .reverse ∧ s.winch.referenced = true ∧
        (fieldsOf s).winch.maxLine ≤ counts / 100
      let sign : Int := if dir = .forward then 1 else -1
      if roleOf s ≠ .corner ∧ roleOf s ≠ .winch then t = s
      else
        t.drive.latest = (if same then some (clampNat 1 250000 interval) else none) ∧
        t.drive.previous = (if same then s.drive.latest else none) ∧
        t.drive.lastEdge = some { dir, age := 0 } ∧ t.drive.lossWatch = 0 ∧
        if roleOf s = .corner then
          t = { s with drive := { s.drive with
                latest := t.drive.latest, previous := t.drive.previous, lastEdge := t.drive.lastEdge, lossWatch := 0
                encoderLost := t.drive.encoderLost, recovery := t.drive.recovery, integrator := t.drive.integrator } } ∧
          (if s.drive.encoderLost = false then t.drive.encoderLost = false ∧ t.drive.recovery = s.drive.recovery
           else if s.node.state ≠ .run ∨ signOf s.drive.target ≠ sign then t.drive.encoderLost = true ∧ t.drive.recovery = 0
           else if s.drive.recovery < 7 then t.drive.encoderLost = true ∧ t.drive.recovery = s.drive.recovery + 1
           else t.drive.encoderLost = false ∧ t.drive.recovery = 8) ∧
          t.drive.integrator = (if s.drive.encoderLost = true ∧ t.drive.encoderLost = false then 0
            else s.drive.integrator)
        else
          t.winch.lineOut = counts ∧
          (if soft then
            t.winch.drum = .atLimitOut ∧ t.winch.op = none ∧ t.bridgeA.active = ⟨safeModeA s, 0⟩ ∧
            t.bridgeA.next = ⟨safeModeA s, 0⟩ ∧ t.drive.ramped = 0 ∧ t.drive.integrator = 0 ∧
            ∀ o ∈ s.winch.op, t.winch.log.head?.map (fun l => (l.dir, l.reason, l.lineOut)) =
              some (o.dir, .softLimit, counts / 100)
           else t.winch.drum = s.winch.drum ∧ SameButReport { s with
              drive := { s.drive with
                latest := t.drive.latest, previous := t.drive.previous, lastEdge := t.drive.lastEdge, lossWatch := 0 }
              winch := { s.winch with
                lineOut := counts
                op := s.winch.op.map fun o =>
                  if o.dir = (if dir = .forward then .haul else .payOut) then
                    { o with firstEdge := o.firstEdge.or (some s.now) }
                  else { o with otherEdge := o.otherEdge.or (some s.now) } } } t))) ∧
  (∀ (s : State), ∃ t, exec .encoderEdgeTimeout s = .next t ∧
      (t = if (s.drive.lastEdge.any fun e => decide (250 ≤ e.age)) = true then
          { s with drive := { s.drive with latest := none, previous := none, lastEdge := none } }
        else s)) ∧
  (∀ (s : State), ∃ t, exec .encoderLost s = .next t ∧
      (if roleOf s = .corner ∧ s.drive.encoderLost = false then
        t.drive = { s.drive with encoderLost := true, recovery := 0, integrator := 0, lossWatch := 500 } ∧
        t.monitor.faults = ({ kind := .encoder, output := .bridgeA, state := s.node.state, uptime := s.node.uptime
                              detail := clampInt (-32768) 32767 s.bridgeA.active.duty } :: s.monitor.faults).take 8 ∧
        SameButReport { s with drive := t.drive, monitor := { s.monitor with faults := t.monitor.faults } } t
      else t = s)) ∧
  (∀ (s : State), ∃ t, exec .encoderRecovered s = .next t ∧
      (t = if roleOf s = .corner ∧ s.node.state = .run ∧ s.drive.encoderLost = true then
          { s with drive := { s.drive with encoderLost := false, recovery := 8, integrator := 0, lossWatch := 0 } }
        else s)) ∧
  (∀ (s : State), ∃ t, exec .tripWaitEnd s = .next t ∧
      t = { s with drive := { s.drive with tripWait := none } }) ∧
  (∀ (s : State), ∃ t, exec .pwmPeriodBoundary s = .next t ∧
      (t = { s with bridgeA := t.bridgeA, bridgeB := t.bridgeB } ∧
      t.bridgeA.active = s.bridgeA.next ∧ t.bridgeA.next = s.bridgeA.next ∧ t.bridgeB.active = s.bridgeB.next ∧
      t.bridgeB.next = s.bridgeB.next ∧
      t.bridgeA.left = s.bridgeA.active ∧ t.bridgeA.atOnce = [] ∧ t.bridgeB.left = s.bridgeB.active ∧
      t.bridgeB.atOnce = [] ∧
      t.bridgeA.used = (s.bridgeA.used || drivesMode s.bridgeA.next.mode) ∧
      t.bridgeB.used = (s.bridgeB.used || drivesMode s.bridgeB.next.mode)))

/-- O50. OVERCURRENT_TRIP above 2 x node_cap with bridge A not OFF, not withdrawn, no trip wait and no bridge A test
under way: the first and second trip within 1000 ms put bridge A OFF for 100 ms with the ramp and integrator at 0 and
an OVERCURRENT record of the count; the third sets WHEEL_LOST, withdraws bridge A in its hold (BRAKE when its low
sides tested good on a driving role, else OFF), the drum to WITHDRAWN on the winch position, and records 3. Otherwise
nothing changes. BRIDGE_B_TRIP above 40 dA with bridge B not OFF and no CHECK step under way: bridge B is OFF, the
loop suspended, the trip wait ends 100 ms later, FREESPOOL ends; the first and second trip within 1000 ms join the
history and record their count, the third withdraws the bridge, records 3 and empties the history.
BRIDGE_B_TRIP_WAIT_END ends the wait. Otherwise nothing changes. The model's choices in it: logs 2, 3, 18, 38, 40, 45.
-/
def Obligations.OvercurrentTripsTheBridges : Prop :=
  (∀ (current : Nat) (s : State), ∃ t, exec (.overcurrentTrip current) s = .next t ∧
      SameButEntry { s with
        drive := { s.drive with tripHistory := t.drive.tripHistory, wheelLost := t.drive.wheelLost } } t ∧
      (let recent := s.drive.tripHistory.filter fun x => s.now - x ≤ 1000
      let good := s.monitor.record.bridgeA = .ok ∨ s.monitor.record.bridgeA = .opened ∨
        s.monitor.record.bridgeA = .shortGnd ∨ s.monitor.record.bridgeA = .lowR
      let hold : BridgeMode := if good ∧ (roleOf s = .corner ∨ roleOf s = .winch) then .brake else .off
      if 2 * (fieldsOf s).power.nodeCap < current ∧ s.bridgeA.active.mode ≠ .off ∧ s.drive.tripWait = none ∧
          s.monitor.withdrawn.bridgeA = false ∧ (s.monitor.waiting = true ∨
            (s.monitor.position ≠ some .pullDownA ∧ s.monitor.position ≠ some .pullUpA ∧
              s.monitor.position ≠ some .loadA)) then
        t.drive.ramped = 0 ∧ t.drive.integrator = 0 ∧ t.node.state = s.node.state ∧
        t.monitor.faults = ({ kind := .overcurrent, output := .bridgeA, state := s.node.state, uptime := s.node.uptime
                              detail := min 3 (recent.length + 1) } :: s.monitor.faults).take 8 ∧
        if 2 ≤ recent.length then
          t.drive.wheelLost = true ∧ t.drive.tripWait = none ∧ t.drive.tripHistory = [] ∧
          t.monitor.withdrawn = { s.monitor.withdrawn with bridgeA := true } ∧ t.monitor.holdA = some hold ∧
          t.bridgeA.active = ⟨hold, 0⟩ ∧ t.bridgeA.next = ⟨hold, 0⟩ ∧
          (roleOf s = .winch → t.winch.drum = .withdrawn ∧ t.winch.op = none ∧ t.bridgeB.active = ⟨.off, 0⟩)
        else
          t.drive.tripWait = some (s.now + 100) ∧ t.drive.tripHistory = recent ++ [s.now] ∧
          t.bridgeA.active = ⟨.off, 0⟩ ∧ t.bridgeA.next = ⟨.off, 0⟩ ∧ t.winch.stallWindow = none ∧
          t.winch.integrator = 0 ∧ t.winch.drum = s.winch.drum ∧ t.bridgeB = s.bridgeB ∧
          t.monitor.withdrawn = s.monitor.withdrawn
      else t = s)) ∧
  (∀ (current : Nat) (s : State), ∃ t, exec (.bridgeBTrip current) s = .next t ∧
      SameButEntry { s with monitor := { s.monitor with tripHistory := t.monitor.tripHistory } } t ∧
      (let recent := s.monitor.tripHistory.filter fun x => s.now - x ≤ 1000
      if 40 < current ∧ s.bridgeB.active.mode ≠ .off ∧ s.monitor.position = none then
        t.bridgeB.active = ⟨.off, 0⟩ ∧ t.bridgeB.next = ⟨.off, 0⟩ ∧ t.steer.loop = false ∧
        t.monitor.tripWait = some (s.now + 100) ∧
        t.monitor.tripHistory = (if 2 ≤ recent.length then [] else recent ++ [s.now]) ∧
        t.monitor.withdrawn = { s.monitor.withdrawn with
          bridgeB := s.monitor.withdrawn.bridgeB || decide (2 ≤ recent.length) } ∧
        t.winch.drum = (if s.winch.drum = .freespool then .braked else s.winch.drum) ∧
        t.monitor.faults = ({ kind := .overcurrent, output := .bridgeB, state := s.node.state, uptime := s.node.uptime
                              detail := min 3 (recent.length + 1) } :: s.monitor.faults).take 8 ∧
        t.bridgeA = s.bridgeA ∧ t.node.state = s.node.state
      else t = s)) ∧
  (∀ (s : State), ∃ t, exec .bridgeBTripWaitEnd s = .next t ∧
      t = { s with monitor := { s.monitor with tripWait := none } })

/-! ## The winch (spec 08) -/

/-- O51. CONTROL_TICK on the winch position reads current and line speed, and the operation in progress keeps its peak
current. In RUN: BRAKED goes to FREESPOOL, driving the solenoid at its moved ceiling, or, for an allowed lever
request, opens an operation and goes to ENGAGING; a lever at rest ends ENGAGING unlogged, and after 150 ms an allowed
direction runs with the record turned to it; HAUL_IN and PAY_OUT run while the lever asks their direction and
otherwise end as LEVER into BRAKED; in HAUL_IN the stall window opens at the first tick with current above winch_stall
and line speed below 5 mm/s, closes at one without, and at 400 ms ends the operation as STALL; each end is logged and
brakes bridge A at once; STALLED and the limit states are left when the lever lets go; FREESPOOL ends with its switch;
WITHDRAWN stays. A changed drum state is shown in a WINCH frame. Outside RUN no request is taken. On other roles only
the pins change. The model's choices in it: logs 3, 17, 18, 19, 26, 40, 53. -/
def Obligations.ControlTickRunsTheDrum : Prop :=
  ∀ (isa isb : Nat) (s : State), ∃ t, exec (.controlTick isa isb) s = .next t ∧
      SameButEntry { s with
        pins := { s.pins with isa, isb }
        winch := { s.winch with
          speedTarget := t.winch.speedTarget, targetCps := t.winch.targetCps, lineSpeed := t.winch.lineSpeed
          motorCurrent := t.winch.motorCurrent, drumCeiling := t.winch.drumCeiling
          solenoidCeiling := t.winch.solenoidCeiling, drumLimited := t.winch.drumLimited
          solenoidLimited := t.winch.solenoidLimited, timer := t.winch.timer } } t ∧
      (let r := presented s
      let testing := s.monitor.waiting = false ∧ (s.monitor.position = some .pullDownA ∨
        s.monitor.position = some .pullUpA ∨ s.monitor.position = some .loadA)
      let rested := if testing ∨ s.drive.tripWait ≠ none then s.bridgeA
        else { s.bridgeA with next := ⟨safeModeA s, 0⟩ }
      let spoolRefused := s.monitor.withdrawn.bridgeB = true ∨ s.monitor.tripWait ≠ none ∨ thermalClass s = .shutdown
      let solenoid := if s.power.grants.bridgeB < isb then s.winch.solenoidCeiling - 50
        else min 1000 (s.winch.solenoidCeiling + 10)
      let spools := t.winch.solenoidCeiling = solenoid ∧ t.bridgeB = { s.bridgeB with next := ⟨.fwd, solenoid⟩ } ∧
        t.winch.solenoidLimited = (s.winch.solenoidLimited || decide (solenoid < 1000))
      let slow := (fieldsOf s).winch.stall < isa ∧ t.winch.lineSpeed.natAbs < 5 ∧ s.drive.tripWait = none
      let stalls := slow ∧ (s.winch.stallWindow.any fun w => decide (400 ≤ s.now - w)) = true
      let op := s.winch.op.map fun o => { o with peak := max o.peak isa }
      let d := t.winch.drum
      let ends := fun (reason : EndReason) =>
        t.winch.op = none ∧ t.winch.log = endedLog op reason s ∧ t.winch.stallWindow = none ∧ BrakedAtOnce s t
      let stands := t.winch.op = op ∧ t.winch.log = s.winch.log
      let dropped := t.winch.op = none ∧ t.winch.log = s.winch.log
      if roleOf s ≠ .winch then t = { s with pins := { s.pins with isa, isb } }
      else
        t.pins = { s.pins with isa, isb } ∧ t.winch.motorCurrent = isa ∧ t.winch.timer = 0 ∧
        t.winch.lineSpeed = clampInt (-1000) 1000 (rdiv (s.drive.measured * (fieldsOf s).winch.lineMmPer100) 100) ∧
        t.node.state = s.node.state ∧ t.intake = s.intake ∧ t.power = s.power ∧ t.monitor = s.monitor ∧
        t.peers = s.peers ∧ t.lights = s.lights ∧
        if s.node.state ≠ .run then
          t = { s with
            pins := t.pins, bridgeA := rested
            winch := { s.winch with
              timer := 0, motorCurrent := isa, speedTarget := 0, targetCps := 0, lineSpeed := t.winch.lineSpeed, op } }
        else DrumShown s t ∧ match s.winch.drum with
        | .braked =>
          t.bridgeA = rested ∧ t.winch.log = s.winch.log ∧ t.winch.speedTarget = 0 ∧ t.winch.targetCps = 0 ∧
          match asks s with
          | none =>
            t.winch.op = op ∧
            if r.freespool = true ∧ ¬ spoolRefused then d = .freespool ∧ spools else d = .braked ∧ t.bridgeB = s.bridgeB
          | some dir =>
            t.bridgeB = s.bridgeB ∧
            if r.freespool = true ∨ mayRun s dir = false then d = .braked ∧ t.winch.op = op
            else d = .engaging ∧ t.winch.engageTimer = some 0 ∧
              t.winch.op = some { dir, start := s.now, firstEdge := none, otherEdge := none, peak := 0 }
        | .engaging =>
          t.bridgeB = s.bridgeB ∧
          match asks s with
          | none => d = .braked ∧ dropped ∧ t.bridgeA = rested
          | some dir =>
            if ¬ (s.winch.engageTimer.any fun n => decide (150 ≤ n)) = true then
              d = .engaging ∧ stands ∧ t.bridgeA = rested ∧ t.winch.engageTimer = s.winch.engageTimer
            else if mayRun s dir = true then
              d = runsIn dir ∧ t.winch.op = op.map (turned dir) ∧ t.winch.log = s.winch.log ∧
              t.winch.engageTimer = none ∧ t.winch.stallWindow = (if dir = .haul ∧ slow then some s.now else none)
            else d = .braked ∧ dropped ∧ t.bridgeA = rested
        | .haulIn =>
          t.bridgeB = s.bridgeB ∧
          if asks s ≠ some .haul then d = .braked ∧ ends .lever
          else if stalls then d = .stalled ∧ ends .stall
          else d = .haulIn ∧ stands ∧ t.winch.stallWindow = if slow then s.winch.stallWindow.or (some s.now) else none
        | .payOut =>
          t.bridgeB = s.bridgeB ∧
          if asks s = some .payOut then d = .payOut ∧ stands else d = .braked ∧ ends .lever
        | .stalled =>
          d = (if asks s = some .haul then .stalled else .braked) ∧ stands ∧ t.bridgeA = rested ∧ t.bridgeB = s.bridgeB
        | .atLimitIn =>
          d = (if asks s = some .haul then .atLimitIn else .braked) ∧ stands ∧ t.bridgeA = rested ∧ t.bridgeB = s.bridgeB
        | .atLimitOut =>
          d = (if asks s = some .payOut then .atLimitOut else .braked) ∧ stands ∧ t.bridgeA = rested ∧
          t.bridgeB = s.bridgeB
        | .freespool =>
          t.bridgeA = rested ∧ stands ∧
          if r.freespool = true then d = .freespool ∧ spools
          else d = .braked ∧ t.bridgeB.active = ⟨.off, 0⟩ ∧ t.bridgeB.next = ⟨.off, 0⟩
        | .withdrawn => d = .withdrawn ∧ stands ∧ t.bridgeA = rested ∧ t.bridgeB = s.bridgeB)

/-- O52. A control tick in RUN that leaves the drum in HAUL_IN or PAY_OUT, running on or just entered: the speed
target is the lever speed, capped in HAUL_IN with assist by the corner median plus assist_slack, never below 0; the
target in cps is negative for pay-out; outside a trip wait the integrator (from 0 at the entry), the ceiling and the
duty follow, a cut marks the drum ceiling-limited, and bridge A is written only in the running direction, else BRAKE.
In a trip wait nothing is written, the ceiling stands and the integrator is 0. The model's choices in it: logs 18, 19.
-/
def Obligations.DrumLoopFollowsTheLever : Prop :=
  ∀ (isa isb : Nat) (s : State), ∃ t, exec (.controlTick isa isb) s = .next t ∧
      (let g := (fieldsOf s).drive
      let dir : WinchDir := if t.winch.drum = .haulIn then .haul else .payOut
      let target := cpsOf s dir
      let err := target - s.drive.measured
      let before := if t.winch.drum = s.winch.drum then s.winch.integrator else 0
      let integ := clampInt (-1000) 1000 (before + rdiv (err * g.ki) 64)
      let ceiling := if s.power.grants.bridgeA < isa then s.winch.drumCeiling - 50 else min 1000 (s.winch.drumCeiling + 10)
      let raw := rdiv (target * g.kf) 1024 + rdiv (err * g.kp) 64 + integ
      let duty := clampInt (-(ceiling : Int)) ceiling raw
      (roleOf s = .winch ∧ s.node.state = .run ∧ (t.winch.drum = .haulIn ∨ t.winch.drum = .payOut)) →
        t.winch.speedTarget = speedOf s dir ∧ t.winch.targetCps = target ∧ t.winch.cap = capOf s dir ∧
        if s.drive.tripWait ≠ none then
          t.winch.integrator = 0 ∧ t.winch.drumCeiling = s.winch.drumCeiling ∧ t.bridgeA = s.bridgeA
        else t.winch.integrator = integ ∧ t.winch.drumCeiling = ceiling ∧
          t.winch.drumLimited = (s.winch.drumLimited || decide (duty ≠ raw)) ∧
          t.bridgeA = { s.bridgeA with next :=
            if dir = .haul ∧ 0 < duty then ⟨.fwd, duty.toNat⟩
            else if dir = .payOut ∧ duty < 0 then ⟨.rev, (-duty).toNat⟩ else ⟨.brake, 0⟩ })

/-- O53. LIMIT_ACCEPTANCE on the winch position accepts the levels given. When both inputs had been accepted OPEN and
no longer are, with SW0 CLOSED, the line-out count is 0 and the reference is set. A haul into SW0 CLOSED ends
AT_LIMIT_IN, a pay-out into SW1 CLOSED AT_LIMIT_OUT, each logged with the line-out after the reference and with bridge
A braked at once. On other roles only the pins change. ENGAGE_DELAY_END in ENGAGING in RUN runs the drum in the
lever's allowed direction, the record turned to it and the speed target formed, or ends BRAKED unlogged. WINCH_STALL
in HAUL_IN with a window open ends the operation as STALL, logged, with the drum STALLED and bridge A braked at once.
WINCH_TIMER_EXPIRY on a serving winch node with its timer running places a WINCH frame and restarts the timer.
Otherwise nothing changes. The model's choices in it: logs 2, 3, 18, 19. -/
def Obligations.LimitsAndEventsStopTheDrum : Prop :=
  (∀ (sw0 sw1 : Option SwitchLevel) (s : State), ∃ t, exec (.limitAcceptance sw0 sw1) s = .next t ∧
      SameButEntry { s with
        pins := t.pins
        winch := { s.winch with
          filter0 := t.winch.filter0, filter1 := t.winch.filter1, lineOut := t.winch.lineOut
          referenced := t.winch.referenced } } t ∧
      (let a0 := if sw0 = none then s.winch.filter0.accepted else sw0
      let a1 := if sw1 = none then s.winch.filter1.accepted else sw1
      let taken := fun (x : Option SwitchLevel) (f : LimitFilter) => match x with
        | none => f
        | some l => { accepted := some l, candidate := some l, count := 0 }
      let event := (s.winch.filter0.accepted = some .opened ∧ s.winch.filter1.accepted = some .opened) ∧
        ¬ (a0 = some .opened ∧ a1 = some .opened)
      let hookIn := event ∧ a0 = some .closed
      let ends := fun (reason : EndReason) =>
        t.winch.op = none ∧ BrakedAtOnce s t ∧ t.winch.stallWindow = none ∧
        t.winch.log = endedLog s.winch.op reason { s with winch := { s.winch with lineOut := t.winch.lineOut } }
      t.pins = { s.pins with sw0 := sw0.getD s.pins.sw0, sw1 := sw1.getD s.pins.sw1 } ∧
      if roleOf s ≠ .winch then t = { s with pins := t.pins }
      else
        t.winch.filter0 = taken sw0 s.winch.filter0 ∧ t.winch.filter1 = taken sw1 s.winch.filter1 ∧
        t.winch.lineOut = (if hookIn then 0 else s.winch.lineOut) ∧
        t.winch.referenced = (s.winch.referenced || decide hookIn) ∧
        if s.winch.drum = .haulIn ∧ a0 = some .closed then t.winch.drum = .atLimitIn ∧ ends .limitIn
        else if s.winch.drum = .payOut ∧ a1 = some .closed then t.winch.drum = .atLimitOut ∧ ends .limitOut
        else t = settle { s with pins := t.pins, winch := { s.winch with
          filter0 := t.winch.filter0, filter1 := t.winch.filter1, lineOut := t.winch.lineOut
          referenced := t.winch.referenced } })) ∧
  (∀ (s : State), ∃ t, exec .engageDelayEnd s = .next t ∧
      SameButEntry { s with
        winch := { s.winch with speedTarget := t.winch.speedTarget, targetCps := t.winch.targetCps } } t ∧
      (if roleOf s = .winch ∧ s.node.state = .run ∧ s.winch.drum = .engaging then
        t.winch.log = s.winch.log ∧ t.bridgeA = s.bridgeA ∧ t.bridgeB = s.bridgeB ∧ t.winch.engageTimer = none ∧
        DrumShown s t ∧
        match asks s with
        | none => t.winch.drum = .braked ∧ t.winch.op = none
        | some dir =>
          if mayRun s dir = true then
            t.winch.drum = runsIn dir ∧ t.winch.integrator = 0 ∧ t.winch.stallWindow = none ∧
            t.winch.op = s.winch.op.map (turned dir) ∧ t.winch.speedTarget = speedOf s dir ∧
            t.winch.targetCps = cpsOf s dir ∧ t.winch.cap = capOf s dir
          else t.winch.drum = .braked ∧ t.winch.op = none
      else t = s)) ∧
  (∀ (s : State), ∃ t, exec .winchStall s = .next t ∧
      SameButEntry s t ∧
      (if s.winch.drum = .haulIn ∧ s.winch.stallWindow ≠ none then
        t.winch.drum = .stalled ∧ t.winch.op = none ∧ t.winch.stallWindow = none ∧ BrakedAtOnce s t ∧
        t.winch.log = endedLog s.winch.op .stall s
      else t = s)) ∧
  (∀ (s : State), ∃ t, exec .winchTimerExpiry s = .next t ∧
      (if roleOf s = .winch ∧ s.winch.winchTimer ≠ none ∧
          (s.node.state = .safe ∨ s.node.state = .run ∨ s.node.state = .failsafe) then
        t = { s with winch := { s.winch with winchTimer := some 0 }
                     bus := { s.bus with slots := { s.bus.slots with winch := t.bus.slots.winch } } } ∧
        ∀ n ∈ stationOf s, t.bus.slots.winch =
          (s.bus.slots.winch.place (decide (lineKind s = some .winch)) { sender := n, payload := winchPayload s }).1
      else t = s))

/-! ## The lamps (spec 09) -/

/-- O54. BEAT_EVENT with the beat timer running: every channel's staged step becomes its active step; the beat
advances, and from 31 wraps to 0 with the epoch advanced modulo 256, placing a BEAT in SAFE, RUN, FAILSAFE and CUTOFF
unless one was heard in the cycle; the brake hold is 20 while braking is seen, else falls, and is 0 outside SAFE, RUN
and FAILSAFE. The wanted display of each channel is current at once when it is steady, off or of the same steps, else
pending, and current after beat 31; the staged step is that of the current display at the next beat by Table 9-3,
dimmed by its class's grant. BEAT_TAKEN takes the oldest frame when it is a BEAT: its epoch is taken, the cycle
restarts at beat 0 as heard, with the steps of beat 0 active and of beat 1 staged, and the own BEAT is withdrawn. The
model's choices in it: logs 2, 3, 22. -/
def Obligations.BeatsDriveTheLamps : Prop :=
  (∀ (s : State), ∃ t, exec .beatEvent s = .next t ∧
      (if s.lights.beatTimer = none then t = s
      else
        t = { s with
          lights := { s.lights with
            beat := t.lights.beat, beatTimer := some 0, epoch := t.lights.epoch, heard := t.lights.heard
            brakeHold := t.lights.brakeHold, channels := t.lights.channels }
          bus := { s.bus with slots := { s.bus.slots with beat := t.bus.slots.beat } } } ∧
        t.lights.beat = (if 31 ≤ s.lights.beat then 0 else s.lights.beat + 1) ∧
        t.lights.epoch = (if 31 ≤ s.lights.beat then (s.lights.epoch + 1) % 256 else s.lights.epoch) ∧
        t.lights.heard = (if 31 ≤ s.lights.beat then false else s.lights.heard) ∧
        t.lights.brakeHold = brakeHoldAfter s ∧ (∀ l, BeatenChannel s t l) ∧
        (if 31 ≤ s.lights.beat ∧ s.lights.heard = false ∧ (s.node.state = .safe ∨ s.node.state = .run ∨
            s.node.state = .failsafe ∨ s.node.state = .cutoff) then
          ∀ n ∈ stationOf s, t.bus.slots.beat = (s.bus.slots.beat.place (decide (lineKind s = some .beat))
            { sender := n, payload := [byteOf t.lights.epoch] }).1
         else t.bus.slots.beat = s.bus.slots.beat))) ∧
  (∀ (s : State), ∃ t, exec .beatTaken s = .next t ∧
      (match headOfKind .beat s with
      | none => t = s
      | some f =>
        if f.payload.length ≠ 1 then t = popQueue s
        else
          t = { popQueue s with
            lights := t.lights
            bus := { (popQueue s).bus with slots := { s.bus.slots with
              beat := s.bus.slots.beat.withdraw (decide (lineKind s = some .beat)) } } } ∧
          CycleRestarted s t ∧ t.lights.heard = true ∧ t.lights.epoch = (f.payload.getD 0 0#8).toNat))

/-- O55. A channel withdrawn, found absent or of function OFF shows nothing. In CUTOFF MARKER and TAILBRAKE show
CUTOFF at 64 and the rest is off; in CONFLICT MARKER (and every channel of a node without position) shows CONFLICT; in
STRAP, LISTEN and CHECK all is off. In SAFE, RUN and FAILSAFE: INDICATOR shows HAZARD in FAILSAFE or with the hazard
switch on, else INDICATE when the geometry's direction is the node's side; MARKER shows FAILSAFE at stage 2, else
LOWBAT at DERATE and LIMP, else marker_level in MARKER, DRIVE and FULL, else READY in SAFE; AUX is off at stage 2 and
at LIMP, else full in FULL; TAILBRAKE is full under the brake hold, else at marker_level in MARKER, DRIVE and FULL;
HEAD is full in DRIVE and FULL; REVERSE is full while REVERSING is set; all else is off. -/
def Obligations.WantedDisplaysFollowTheOverrides : Prop :=
  ∀ (s : State) (l : Lamp),
    let mode := s.intake.record.lights
    let marker := (fieldsOf s).lights.markerLevel
    let stage2 := s.node.state = .failsafe ∧ s.intake.stage = .two
    let level := effectiveLevel s
    let turning := (s.steer.geometry.indicator = .left ∧
        (s.node.position = some .fl ∨ s.node.position = some .ml ∨ s.node.position = some .rl)) ∨
      (s.steer.geometry.indicator = .right ∧
        (s.node.position = some .fr ∨ s.node.position = some .mr ∨ s.node.position = some .rr))
    (∀ f, functionOf s l = some f →
      (f = .off → wantedDisplay s l = .off) ∧
      (s.node.state = .strap ∨ s.node.state = .listen ∨ s.node.state = .check → wantedDisplay s l = .off) ∧
      (s.node.state = .cutoff → wantedDisplay s l =
        if f = .marker ∨ f = .tailbrake then .show .cutoff 64 else .off) ∧
      (s.node.state = .conflict → wantedDisplay s l = if f = .marker then .show .conflict 255 else .off) ∧
      (s.node.state = .safe ∨ s.node.state = .run ∨ s.node.state = .failsafe → wantedDisplay s l =
        match f with
        | .off => .off
        | .indicator =>
          if s.node.state = .failsafe ∨ s.intake.record.hazard = true then .show .hazard 255
          else if turning then .show .indicate 255 else .off
        | .marker =>
          if stage2 then .show .failsafe 255
          else if level = .derate ∨ level = .limp then .show .lowbat 255
          else if mode = .marker ∨ mode = .drive ∨ mode = .full then .show .steady marker
          else if s.node.state = .safe then .show .ready marker else .off
        | .aux => if stage2 ∨ level = .limp then .off else if mode = .full then .show .steady 255 else .off
        | .tailbrake =>
          if 0 < s.lights.brakeHold then .show .steady 255
          else if mode = .marker ∨ mode = .drive ∨ mode = .full then .show .steady marker else .off
        | .head => if mode = .drive ∨ mode = .full then .show .steady 255 else .off
        | .reverse => if s.drive.reversing = true then .show .steady 255 else .off)) ∧
    (functionOf s l = none → wantedDisplay s l = if s.node.state = .conflict then .show .conflict 255 else .off) ∧
    (s.monitor.withdrawn.lamps.get l = true ∨ s.monitor.absent.get l = true → wantedDisplay s l = .off)

/-! ## The output monitor (spec 10) -/

/-- O56. SUPPLY_TEST_RETRY at step 1 goes on with VPACK of 5500 to 18500 mV and otherwise waits again. PULL_TEST_END
at a pull-down reading above half of VPACK is SHORT_SUPPLY, at a pull-up reading below a tenth SHORT_GND: the result
stands, the bridge is withdrawn (bridge A in BRAKE on a driving role after SHORT_GND, else OFF), CHECK_FAIL is
recorded; otherwise the result and the withdrawals stand. Each then goes on to the next step not skipped. At any other
step nothing changes. SUPPLY_DIP below 5500 mV in CHECK after step 1: bridge B is OFF and bridge A in its safe hold at
once (OFF during a trip wait); every output not withdrawn returns to NOT_TESTED; the sequence stands at step 1; the
new ratings are dropped, the earlier ones, the withdrawals, the fault list and the calibration stand. Otherwise
nothing changes. The model's choices in it: logs 2, 3, 16, 18, 36, 37. -/
def Obligations.SupplyAndPullTestsJudge : Prop :=
  (∀ (vpack : Int) (s : State), ∃ t, exec (.supplyTestRetry vpack) s = .next t ∧
      SameButEntry { s with pins := t.pins } t ∧
      (if s.monitor.position = some .supply then
        t.pins = { s.pins with vpack } ∧
        if 5500 ≤ vpack ∧ vpack ≤ 18500 then Advanced .supply s t ∧ t.monitor.withdrawn = s.monitor.withdrawn ∧
          t.monitor.record = { s.monitor.record with inProgress := t.monitor.record.inProgress }
        else t = { s with pins := { s.pins with vpack }, monitor := { s.monitor with stepTimer := 0 } }
      else t = s)) ∧
  (∀ (out vpack : Int) (s : State), ∃ t, exec (.pullTestEnd out vpack) s = .next t ∧
      SameButEntry { s with pins := t.pins } t ∧
      (match s.monitor.position with
      | some .pullDownA =>
        t.pins = { s.pins with vpack, outA := out } ∧ Advanced .pullDownA s t ∧
        (if vpack < 2 * out then
          t.monitor.record = { s.monitor.record with bridgeA := .shortSupply, inProgress := t.monitor.record.inProgress } ∧
          t.monitor.withdrawn = { s.monitor.withdrawn with bridgeA := true } ∧ t.monitor.holdA = some .off ∧
          (roleOf s = .winch → t.winch.drum = .withdrawn) ∧
          FailRecorded .bridgeA 3 s t
        else t.monitor.record = { s.monitor.record with inProgress := t.monitor.record.inProgress } ∧
          t.monitor.withdrawn = s.monitor.withdrawn ∧ t.monitor.holdA = s.monitor.holdA)
      | some .pullUpA =>
        t.pins = { s.pins with vpack, outA := out } ∧ Advanced .pullUpA s t ∧
        (if 10 * out < vpack then
          t.monitor.record = { s.monitor.record with bridgeA := .shortGnd, inProgress := t.monitor.record.inProgress } ∧
          t.monitor.withdrawn = { s.monitor.withdrawn with bridgeA := true } ∧ t.monitor.holdA = some (safeHold false none (roleOf s)) ∧
          (roleOf s = .winch → t.winch.drum = .withdrawn) ∧
          FailRecorded .bridgeA 2 s t
        else t.monitor.record = { s.monitor.record with inProgress := t.monitor.record.inProgress } ∧
          t.monitor.withdrawn = s.monitor.withdrawn ∧ t.monitor.holdA = s.monitor.holdA)
      | some .pullDownB =>
        t.pins = { s.pins with vpack, outB := out } ∧ Advanced .pullDownB s t ∧
        (if vpack < 2 * out then
          t.monitor.record = { s.monitor.record with bridgeB := .shortSupply, inProgress := t.monitor.record.inProgress } ∧
          t.monitor.withdrawn = { s.monitor.withdrawn with bridgeB := true } ∧
          FailRecorded .bridgeB 3 s t
        else t.monitor.record = { s.monitor.record with inProgress := t.monitor.record.inProgress } ∧
          t.monitor.withdrawn = s.monitor.withdrawn ∧ t.monitor.holdA = s.monitor.holdA)
      | some .pullUpB =>
        t.pins = { s.pins with vpack, outB := out } ∧ Advanced .pullUpB s t ∧
        (if 10 * out < vpack then
          t.monitor.record = { s.monitor.record with bridgeB := .shortGnd, inProgress := t.monitor.record.inProgress } ∧
          t.monitor.withdrawn = { s.monitor.withdrawn with bridgeB := true } ∧
          FailRecorded .bridgeB 2 s t
        else t.monitor.record = { s.monitor.record with inProgress := t.monitor.record.inProgress } ∧
          t.monitor.withdrawn = s.monitor.withdrawn ∧ t.monitor.holdA = s.monitor.holdA)
      | _ => t = s)) ∧
  (∀ (vpack : Int) (s : State), ∃ t, exec (.supplyDip vpack) s = .next t ∧
      (if s.node.state = .check ∧ s.monitor.position ≠ none ∧ s.monitor.position ≠ some .supply ∧ vpack < 5500 then
        t.monitor.position = some .supply ∧ t.monitor.waiting = false ∧ t.monitor.stepTimer = 0 ∧
        t.bridgeB.active = ⟨.off, 0⟩ ∧
        t.bridgeA.active =
          ⟨if s.drive.tripWait ≠ none ∧ s.monitor.withdrawn.bridgeA = false then .off else safeModeA s, 0⟩ ∧
        t.monitor.record.bridgeA =
          (if s.monitor.withdrawn.bridgeA then s.monitor.record.bridgeA else .notTested) ∧
        t.monitor.record.bridgeB =
          (if s.monitor.withdrawn.bridgeB then s.monitor.record.bridgeB else .notTested) ∧
        (∀ l, t.monitor.record.lamps.get l =
          if s.monitor.withdrawn.lamps.get l then s.monitor.record.lamps.get l else .notTested) ∧
        t.monitor.ratings = s.monitor.ratings ∧ t.monitor.newRatings = Quad.all none ∧
        t.monitor.withdrawn = s.monitor.withdrawn ∧ t.monitor.faults = s.monitor.faults ∧
        t = { s with pins := { s.pins with vpack }, monitor := t.monitor, bridgeA := t.bridgeA, bridgeB := t.bridgeB
                     steer := { s.steer with loop := false } }
      else t = s))

/-- O57. LOAD_PULSE_END at a load step that does not wait: 0 dA is OPEN; otherwise the resistance V x 10 / I, with V a
tenth of the VPACK read at the start, above the window of Table 10-4 is OPEN, below it LOW_R, within it OK.
LOAD_PULSE_TRIP above the trip level (2 x node_cap for A, 40 dA for B) is LOW_R. A failing result withdraws the bridge
and records CHECK_FAIL; OK leaves the withdrawals. Each goes on to the next step. At any other step nothing changes.
The model's choices in it: logs 2, 3, 18, 36, 37. -/
def Obligations.LoadPulsesMeasureTheBridges : Prop :=
  (∀ (current : Nat) (s : State), ∃ t, exec (.loadPulseEnd current) s = .next t ∧
      SameButEntry s t ∧
      (let r := rdivNat (s.monitor.pulseVpack.toNat * 100) 1000 * 10 / current
      let judge := fun (lo hi : Nat) =>
        if current = 0 ∨ hi < r then CheckResult.opened else if r < lo then CheckResult.lowR else CheckResult.ok
      match s.monitor.position, s.monitor.waiting with
      | some .loadA, false =>
        t.monitor.record =
          { s.monitor.record with bridgeA := judge 50 20000, inProgress := t.monitor.record.inProgress } ∧
        Advanced .loadA s t ∧
        if judge 50 20000 = .ok then t.monitor.withdrawn = s.monitor.withdrawn
        else t.monitor.withdrawn = { s.monitor.withdrawn with bridgeA := true } ∧
          t.monitor.holdA = some (safeHold false none (roleOf s)) ∧ (roleOf s = .winch → t.winch.drum = .withdrawn) ∧
          FailRecorded .bridgeA (checkCode (judge 50 20000)) s t
      | some .loadB, false =>
        let res := if roleOf s = .winch then judge 2000 50000 else judge 500 30000
        t.monitor.record = { s.monitor.record with bridgeB := res, inProgress := t.monitor.record.inProgress } ∧
        Advanced .loadB s t ∧
        if res = .ok then t.monitor.withdrawn = s.monitor.withdrawn
        else t.monitor.withdrawn = { s.monitor.withdrawn with bridgeB := true } ∧ FailRecorded .bridgeB (checkCode res) s t
      | _, _ => t = s)) ∧
  (∀ (current : Nat) (s : State), ∃ t, exec (.loadPulseTrip current) s = .next t ∧
      SameButEntry s t ∧
      (match s.monitor.position, s.monitor.waiting with
      | some .loadA, false =>
        if 2 * (fieldsOf s).power.nodeCap < current then
          t.monitor.record =
            { s.monitor.record with bridgeA := .lowR, inProgress := t.monitor.record.inProgress } ∧
          t.monitor.withdrawn = { s.monitor.withdrawn with bridgeA := true } ∧ Advanced .loadA s t ∧
          t.drive.tripHistory = s.drive.tripHistory ∧ FailRecorded .bridgeA 4 s t
        else t = s
      | some .loadB, false =>
        if 40 < current then
          t.monitor.record =
            { s.monitor.record with bridgeB := .lowR, inProgress := t.monitor.record.inProgress } ∧
          t.monitor.withdrawn = { s.monitor.withdrawn with bridgeB := true } ∧ Advanced .loadB s t ∧
          t.monitor.tripHistory = s.monitor.tripHistory ∧ FailRecorded .bridgeB 4 s t
        else t = s
      | _, _ => t = s))

/-- O58. LAMP_PRESENCE_TEST_END: a pin above half of VPACK goes on to the channel's rating, with its switch at 255; a
lower one makes the channel ABSENT and adds no fault record (the temperature step, if it comes next, may add its own).
LAMP_RATING_END gives OK and the mean, 30 dA at most, as the new rating, which replaces the earlier one when the
sequence leaves step 8. LAMP_RATING_SHORT above 30 dA gives SHORT_SUPPLY, withdraws the channel and records
LAMP_SHORT. Each then goes on to the next step. At any other step nothing changes. LAMP_SHORT above 30 dA outside
STRAP, the channel's own tests and a withdrawal: the channel's active and staged steps are 0, the channel is
withdrawn, a LAMP_SHORT record carries the current, at most 255. Otherwise nothing changes. That the switch is on is
the row's own word. The model's choices in it: logs 2, 3, 18, 20, 36, 37. -/
def Obligations.LampTestsAndShorts : Prop :=
  (∀ (pin vpack : Int) (s : State), ∃ t, exec (.lampPresenceTestEnd pin vpack) s = .next t ∧
      SameButEntry { s with pins := t.pins } t ∧
      (match s.monitor.position with
      | some (.lampPresence l) =>
        t.pins = { s.pins with vpack, lampPins := s.pins.lampPins.put l pin } ∧
        if vpack < 2 * pin then
          t.monitor.position = some (.lampRating l) ∧ t.monitor.stepTimer = 0 ∧
          (s.node.state ≠ .strap → lampLevel t l = 255) ∧
          t = { s with pins := t.pins, monitor := t.monitor } ∧ t.monitor.record = s.monitor.record
        else
          t.monitor.record.lamps = s.monitor.record.lamps.put l .absent ∧ t.monitor.absent = s.monitor.absent.put l true ∧
          t.monitor.withdrawn = s.monitor.withdrawn ∧ Advanced (.lampPresence l) s t ∧
          ∀ r ∈ t.monitor.faults, r ∈ s.monitor.faults ∨ r.kind = .thermalSensor ∨ r.kind = .overtemp
      | _ => t = s)) ∧
  (∀ (mean : Nat) (s : State), ∃ t, exec (.lampRatingEnd mean) s = .next t ∧
      SameButEntry s t ∧
      (match s.monitor.position with
      | some (.lampRating l) =>
        t.monitor.record.lamps = s.monitor.record.lamps.put l .ok ∧ t.monitor.withdrawn = s.monitor.withdrawn ∧
        t.monitor.absent = s.monitor.absent ∧ Advanced (.lampRating l) s t ∧
        (let new := s.monitor.newRatings.put l (some (min 30 mean))
        match t.monitor.position with
        | some (.lampPresence _) => t.monitor.newRatings = new ∧ t.monitor.ratings = s.monitor.ratings
        | _ => t.monitor.newRatings = Quad.all none ∧
          t.monitor.ratings = Quad.ofLamp fun c => (new.get c).or (s.monitor.ratings.get c))
      | _ => t = s)) ∧
  (∀ (current : Nat) (s : State), ∃ t, exec (.lampRatingShort current) s = .next t ∧
      SameButEntry s t ∧
      (match s.monitor.position with
      | some (.lampRating l) =>
        if 30 < current then
          t.monitor.record.lamps = s.monitor.record.lamps.put l .shortSupply ∧
          t.monitor.withdrawn = { s.monitor.withdrawn with lamps := s.monitor.withdrawn.lamps.put l true } ∧
          t.lights = { s.lights with channels := t.lights.channels } ∧
          t.lights.channels = s.lights.channels.put l { s.lights.channels.get l with staged := 0, active := 0 } ∧
          Advanced (.lampRating l) s t ∧
          { kind := .lampShort, output := .lamp l, state := s.node.state, uptime := s.node.uptime
            detail := min 255 current } ∈ t.monitor.faults
        else t = s
      | _ => t = s)) ∧
  (∀ (lamp : Lamp) (current : Nat) (s : State), ∃ t, exec (.lampShort lamp current) s = .next t ∧
      (if 30 < current ∧ s.node.state ≠ .strap ∧ s.monitor.withdrawn.lamps.get lamp = false ∧
          s.monitor.position ≠ some (.lampPresence lamp) ∧ s.monitor.position ≠ some (.lampRating lamp) then
        t.lights.channels =
          s.lights.channels.put lamp { s.lights.channels.get lamp with active := 0, staged := 0 } ∧
        t.monitor.withdrawn = { s.monitor.withdrawn with lamps := s.monitor.withdrawn.lamps.put lamp true } ∧
        t.monitor.faults = ({ kind := .lampShort, output := .lamp lamp, state := s.node.state
                              uptime := s.node.uptime, detail := min 255 current } :: s.monitor.faults).take 8 ∧
        SameButReport { s with
          lights := { s.lights with channels := t.lights.channels }
          monitor := { s.monitor with withdrawn := t.monitor.withdrawn, faults := t.monitor.faults } } t
      else t = s))

/-- O59. SWEEP_STOP_FOUND in the left phase keeps the reading and drives FWD at 400; in the right phase a span of 200
counts or more becomes the calibration, clears STEER_LOST and drives REV at 300, keeping what stood before; a smaller
one fails. SWEEP_PHASE_TIMEOUT in the first two phases, and SWEEP_FAULT in any, fail the sweep: SWEEP_FAIL, bridge B
OFF and withdrawn, recorded, with the calibration and STEER_LOST from before the sweep. SWEEP_RETURN_END in the return
ends the sequence in SAFE. Outside its phases nothing changes. The model's choices in it: logs 2, 3, 16, 32. -/
def Obligations.SweepCalibratesTheSteering : Prop :=
  (∀ (pot : Nat) (s : State), ∃ t, exec (.sweepStopFound pot) s = .next t ∧
      SameButEntry { s with
        pins := t.pins
        steer := { s.steer with calibration := t.steer.calibration, steerLost := t.steer.steerLost } } t ∧
      (match s.monitor.position, s.monitor.waiting with
      | some .sweepLeft, false =>
        t.monitor.position = some .sweepRight ∧ t.monitor.sweep.left = some pot ∧ t.monitor.sweep.elapsed = 0 ∧
        t.bridgeB.active = ⟨.fwd, 400⟩ ∧ t.bridgeB.next = ⟨.fwd, 400⟩ ∧
        t = { s with pins := { s.pins with pot }, monitor := t.monitor, bridgeB := t.bridgeB }
      | some .sweepRight, false =>
        let left := s.monitor.sweep.left.getD 0
        if left + 200 ≤ pot then
          t.steer = { s.steer with calibration := some { left, right := pot }, steerLost := false } ∧
          t.monitor.sweep.priorCalibration = s.steer.calibration ∧ t.monitor.sweep.priorLost = s.steer.steerLost ∧
          t.monitor.position = some .sweepReturn ∧ t.monitor.record.bridgeB = .ok ∧
          t.bridgeB.active = ⟨.rev, 300⟩ ∧ t.bridgeB.next = ⟨.rev, 300⟩
        else
          t.steer.calibration = s.steer.calibration ∧ t.steer.steerLost = s.steer.steerLost ∧
          t.monitor.record.bridgeB = .sweepFail ∧ t.monitor.withdrawn.bridgeB = true ∧
          t.bridgeB.active = ⟨.off, 0⟩ ∧ FailRecorded .bridgeB 7 s t ∧ Advanced .sweepRight s t
      | _, _ => t = s)) ∧
  (∀ (s : State), ∃ t, exec .sweepPhaseTimeout s = .next t ∧
      SameButEntry s t ∧
      (if s.monitor.waiting = false ∧ (s.monitor.position = some .sweepLeft ∨ s.monitor.position = some .sweepRight) then
        t.steer.calibration = s.steer.calibration ∧ t.steer.steerLost = s.steer.steerLost ∧
        t.monitor.record.bridgeB = .sweepFail ∧ t.monitor.withdrawn = { s.monitor.withdrawn with bridgeB := true } ∧
        t.bridgeB.active = ⟨.off, 0⟩ ∧ FailRecorded .bridgeB 7 s t ∧ t.node.state = .safe ∧ t.monitor.position = none
      else t = s)) ∧
  (∀ (s : State), ∃ t, exec .sweepFault s = .next t ∧
      SameButEntry { s with steer := { s.steer with calibration := t.steer.calibration, steerLost := t.steer.steerLost } } t ∧
      (if s.monitor.waiting = false ∧ (s.monitor.position = some .sweepLeft ∨ s.monitor.position = some .sweepRight ∨
          s.monitor.position = some .sweepReturn) then
        (if s.monitor.position = some .sweepReturn then t.steer.calibration = s.monitor.sweep.priorCalibration ∧
            t.steer.steerLost = s.monitor.sweep.priorLost
         else t.steer.calibration = s.steer.calibration ∧ t.steer.steerLost = s.steer.steerLost) ∧
        t.monitor.record.bridgeB = .sweepFail ∧ t.monitor.withdrawn = { s.monitor.withdrawn with bridgeB := true } ∧
        t.bridgeB.active = ⟨.off, 0⟩ ∧ FailRecorded .bridgeB 7 s t ∧ t.node.state = .safe ∧ t.monitor.position = none
      else t = s)) ∧
  (∀ (s : State), ∃ t, exec .sweepReturnEnd s = .next t ∧
      SameButEntry s t ∧
      (if s.monitor.waiting = false ∧ s.monitor.position = some .sweepReturn then
        t.node.state = .safe ∧ t.monitor.position = none ∧ t.monitor.record = { s.monitor.record with inProgress := false } ∧
        t.bridgeB.active = ⟨.off, 0⟩ ∧ t.bridgeB.next = ⟨.off, 0⟩ ∧ t.steer.calibration = s.steer.calibration
      else t = s))

/-- O60. TEMPERATURE_READING classes each sensor by Table 10-6, by an implausible reading too while it has no fault;
the tenth implausible reading in a run sets the sensor's fault, classes it WARN and adds a THERMAL_SENSOR record.
THERMAL_SENSOR_FAULT of an implausible reading does the same to a sensor that has no fault, at once. A warning raised
lowers the allowance to its cap. Entering SHUTDOWN puts bridge B OFF and bridge A in BRAKE (OFF in a trip wait),
records OVERTEMP with the sensor and its reading, ends a running drum as FAULT, ENGAGING and FREESPOOL, and makes a
driving CHECK step wait with its result NOT_TESTED; leaving it begins the step again, or, when its output has been
withdrawn meanwhile, skips it: the sequence goes on with the results, the withdrawals and the hold as they stand.
Without these nothing changes but the sensors, the records and the REPORT they bring. The model's choices in it: logs
2, 3, 14, 15, 16, 18, 28, 36, 40, 52. -/
def Obligations.TemperaturesClassTheNode : Prop :=
  (∀ (ts1 die : Int) (s : State), ∃ t, exec (.temperatureReading ts1 die) s = .next t ∧
      SameButEntry { s with pins := { s.pins with ts1, die }, monitor := { s.monitor with tempTimer := 0 } } t ∧
      (t.pins = { s.pins with ts1, die } ∧ t.monitor.tempTimer = 0 ∧
      if waitsInVain s = true ∧ (sensorAfter s.monitor.ts1 ts1).thermal ≠ .shutdown ∧
          (sensorAfter s.monitor.die die).thermal ≠ .shutdown then
        WaitedInVain s t ∧ (∀ r ∈ tenthRecord .die die s ++ tenthRecord .ts1 ts1 s, r ∈ t.monitor.faults)
      else
      t.node.state = s.node.state ∧
      t.monitor.ts1 = sensorAfter s.monitor.ts1 ts1 ∧ t.monitor.die = sensorAfter s.monitor.die die ∧ ThermalActs s t ∧
      (let new := overtempRecord s t ++ tenthRecord .die die s ++ tenthRecord .ts1 ts1 s
       t.monitor.faults = if new = [] then s.monitor.faults else (new ++ s.monitor.faults).take 8) ∧
      (thermalClass t = thermalClass s → ¬ releasesStep s t → tenthRecord .die die s = [] → tenthRecord .ts1 ts1 s = [] →
        t = settle { s with
          pins := { s.pins with ts1, die }
          monitor := { s.monitor with
            ts1 := sensorAfter s.monitor.ts1 ts1, die := sensorAfter s.monitor.die die, tempTimer := 0 } }))) ∧
  (∀ (sensor : Sensor) (reading : Int) (s : State), ∃ t, exec (.thermalSensorFault sensor reading) s = .next t ∧
      SameButEntry s t ∧
      (if (reading < -40 ∨ 180 < reading) ∧ (sensorOf sensor s.monitor).fault = false then
        if waitsInVain s = true ∧ (if sensor = .ts1 then s.monitor.die else s.monitor.ts1).thermal ≠ .shutdown then
          WaitedInVain s t ∧ t.pins = s.pins ∧ sensorRecord sensor reading s ∈ t.monitor.faults
        else
        sensorOf sensor t.monitor = { reading, thermal := .warn, fault := true, implausible := 0 } ∧
        (∀ other, other ≠ sensor → sensorOf other t.monitor = sensorOf other s.monitor) ∧
        t.pins = s.pins ∧ t.node.state = s.node.state ∧ ThermalActs s t ∧
        t.monitor.faults = (sensorRecord sensor reading s :: s.monitor.faults).take 8
      else t = s))

end
end

