-- ==== Sys2Proof/Laws/State.lean ====
section
/-! SUPPORT. One lemma per field per update of the state, so that no proof unfolds an update. -/

namespace Sys2Proof.Machine

@[simp] theorem State.setNow_now (s : State) (x : Nat) : (s.setNow x).now = x := rfl
@[simp] theorem State.setNow_pins (s : State) (x : Nat) : (s.setNow x).pins = s.pins := rfl
@[simp] theorem State.setNow_node (s : State) (x : Nat) : (s.setNow x).node = s.node := rfl
@[simp] theorem State.setNow_bus (s : State) (x : Nat) : (s.setNow x).bus = s.bus := rfl
@[simp] theorem State.setNow_peers (s : State) (x : Nat) : (s.setNow x).peers = s.peers := rfl
@[simp] theorem State.setNow_intake (s : State) (x : Nat) : (s.setNow x).intake = s.intake := rfl
@[simp] theorem State.setNow_power (s : State) (x : Nat) : (s.setNow x).power = s.power := rfl
@[simp] theorem State.setNow_bridgeA (s : State) (x : Nat) : (s.setNow x).bridgeA = s.bridgeA := rfl
@[simp] theorem State.setNow_bridgeB (s : State) (x : Nat) : (s.setNow x).bridgeB = s.bridgeB := rfl
@[simp] theorem State.setNow_steer (s : State) (x : Nat) : (s.setNow x).steer = s.steer := rfl
@[simp] theorem State.setNow_drive (s : State) (x : Nat) : (s.setNow x).drive = s.drive := rfl
@[simp] theorem State.setNow_winch (s : State) (x : Nat) : (s.setNow x).winch = s.winch := rfl
@[simp] theorem State.setNow_lights (s : State) (x : Nat) : (s.setNow x).lights = s.lights := rfl
@[simp] theorem State.setNow_monitor (s : State) (x : Nat) : (s.setNow x).monitor = s.monitor := rfl
@[simp] theorem State.setNow_pending (s : State) (x : Nat) : (s.setNow x).pending = s.pending := rfl

@[simp] theorem State.setPins_now (s : State) (x : Pins) : (s.setPins x).now = s.now := rfl
@[simp] theorem State.setPins_pins (s : State) (x : Pins) : (s.setPins x).pins = x := rfl
@[simp] theorem State.setPins_node (s : State) (x : Pins) : (s.setPins x).node = s.node := rfl
@[simp] theorem State.setPins_bus (s : State) (x : Pins) : (s.setPins x).bus = s.bus := rfl
@[simp] theorem State.setPins_peers (s : State) (x : Pins) : (s.setPins x).peers = s.peers := rfl
@[simp] theorem State.setPins_intake (s : State) (x : Pins) : (s.setPins x).intake = s.intake := rfl
@[simp] theorem State.setPins_power (s : State) (x : Pins) : (s.setPins x).power = s.power := rfl
@[simp] theorem State.setPins_bridgeA (s : State) (x : Pins) : (s.setPins x).bridgeA = s.bridgeA := rfl
@[simp] theorem State.setPins_bridgeB (s : State) (x : Pins) : (s.setPins x).bridgeB = s.bridgeB := rfl
@[simp] theorem State.setPins_steer (s : State) (x : Pins) : (s.setPins x).steer = s.steer := rfl
@[simp] theorem State.setPins_drive (s : State) (x : Pins) : (s.setPins x).drive = s.drive := rfl
@[simp] theorem State.setPins_winch (s : State) (x : Pins) : (s.setPins x).winch = s.winch := rfl
@[simp] theorem State.setPins_lights (s : State) (x : Pins) : (s.setPins x).lights = s.lights := rfl
@[simp] theorem State.setPins_monitor (s : State) (x : Pins) : (s.setPins x).monitor = s.monitor := rfl
@[simp] theorem State.setPins_pending (s : State) (x : Pins) : (s.setPins x).pending = s.pending := rfl

@[simp] theorem State.setNode_now (s : State) (x : Node) : (s.setNode x).now = s.now := rfl
@[simp] theorem State.setNode_pins (s : State) (x : Node) : (s.setNode x).pins = s.pins := rfl
@[simp] theorem State.setNode_node (s : State) (x : Node) : (s.setNode x).node = x := rfl
@[simp] theorem State.setNode_bus (s : State) (x : Node) : (s.setNode x).bus = s.bus := rfl
@[simp] theorem State.setNode_peers (s : State) (x : Node) : (s.setNode x).peers = s.peers := rfl
@[simp] theorem State.setNode_intake (s : State) (x : Node) : (s.setNode x).intake = s.intake := rfl
@[simp] theorem State.setNode_power (s : State) (x : Node) : (s.setNode x).power = s.power := rfl
@[simp] theorem State.setNode_bridgeA (s : State) (x : Node) : (s.setNode x).bridgeA = s.bridgeA := rfl
@[simp] theorem State.setNode_bridgeB (s : State) (x : Node) : (s.setNode x).bridgeB = s.bridgeB := rfl
@[simp] theorem State.setNode_steer (s : State) (x : Node) : (s.setNode x).steer = s.steer := rfl
@[simp] theorem State.setNode_drive (s : State) (x : Node) : (s.setNode x).drive = s.drive := rfl
@[simp] theorem State.setNode_winch (s : State) (x : Node) : (s.setNode x).winch = s.winch := rfl
@[simp] theorem State.setNode_lights (s : State) (x : Node) : (s.setNode x).lights = s.lights := rfl
@[simp] theorem State.setNode_monitor (s : State) (x : Node) : (s.setNode x).monitor = s.monitor := rfl
@[simp] theorem State.setNode_pending (s : State) (x : Node) : (s.setNode x).pending = s.pending := rfl

@[simp] theorem State.setBus_now (s : State) (x : Bus) : (s.setBus x).now = s.now := rfl
@[simp] theorem State.setBus_pins (s : State) (x : Bus) : (s.setBus x).pins = s.pins := rfl
@[simp] theorem State.setBus_node (s : State) (x : Bus) : (s.setBus x).node = s.node := rfl
@[simp] theorem State.setBus_bus (s : State) (x : Bus) : (s.setBus x).bus = x := rfl
@[simp] theorem State.setBus_peers (s : State) (x : Bus) : (s.setBus x).peers = s.peers := rfl
@[simp] theorem State.setBus_intake (s : State) (x : Bus) : (s.setBus x).intake = s.intake := rfl
@[simp] theorem State.setBus_power (s : State) (x : Bus) : (s.setBus x).power = s.power := rfl
@[simp] theorem State.setBus_bridgeA (s : State) (x : Bus) : (s.setBus x).bridgeA = s.bridgeA := rfl
@[simp] theorem State.setBus_bridgeB (s : State) (x : Bus) : (s.setBus x).bridgeB = s.bridgeB := rfl
@[simp] theorem State.setBus_steer (s : State) (x : Bus) : (s.setBus x).steer = s.steer := rfl
@[simp] theorem State.setBus_drive (s : State) (x : Bus) : (s.setBus x).drive = s.drive := rfl
@[simp] theorem State.setBus_winch (s : State) (x : Bus) : (s.setBus x).winch = s.winch := rfl
@[simp] theorem State.setBus_lights (s : State) (x : Bus) : (s.setBus x).lights = s.lights := rfl
@[simp] theorem State.setBus_monitor (s : State) (x : Bus) : (s.setBus x).monitor = s.monitor := rfl
@[simp] theorem State.setBus_pending (s : State) (x : Bus) : (s.setBus x).pending = s.pending := rfl

@[simp] theorem State.setPeers_now (s : State) (x : Peers) : (s.setPeers x).now = s.now := rfl
@[simp] theorem State.setPeers_pins (s : State) (x : Peers) : (s.setPeers x).pins = s.pins := rfl
@[simp] theorem State.setPeers_node (s : State) (x : Peers) : (s.setPeers x).node = s.node := rfl
@[simp] theorem State.setPeers_bus (s : State) (x : Peers) : (s.setPeers x).bus = s.bus := rfl
@[simp] theorem State.setPeers_peers (s : State) (x : Peers) : (s.setPeers x).peers = x := rfl
@[simp] theorem State.setPeers_intake (s : State) (x : Peers) : (s.setPeers x).intake = s.intake := rfl
@[simp] theorem State.setPeers_power (s : State) (x : Peers) : (s.setPeers x).power = s.power := rfl
@[simp] theorem State.setPeers_bridgeA (s : State) (x : Peers) : (s.setPeers x).bridgeA = s.bridgeA := rfl
@[simp] theorem State.setPeers_bridgeB (s : State) (x : Peers) : (s.setPeers x).bridgeB = s.bridgeB := rfl
@[simp] theorem State.setPeers_steer (s : State) (x : Peers) : (s.setPeers x).steer = s.steer := rfl
@[simp] theorem State.setPeers_drive (s : State) (x : Peers) : (s.setPeers x).drive = s.drive := rfl
@[simp] theorem State.setPeers_winch (s : State) (x : Peers) : (s.setPeers x).winch = s.winch := rfl
@[simp] theorem State.setPeers_lights (s : State) (x : Peers) : (s.setPeers x).lights = s.lights := rfl
@[simp] theorem State.setPeers_monitor (s : State) (x : Peers) : (s.setPeers x).monitor = s.monitor := rfl
@[simp] theorem State.setPeers_pending (s : State) (x : Peers) : (s.setPeers x).pending = s.pending := rfl

@[simp] theorem State.setIntake_now (s : State) (x : Intake) : (s.setIntake x).now = s.now := rfl
@[simp] theorem State.setIntake_pins (s : State) (x : Intake) : (s.setIntake x).pins = s.pins := rfl
@[simp] theorem State.setIntake_node (s : State) (x : Intake) : (s.setIntake x).node = s.node := rfl
@[simp] theorem State.setIntake_bus (s : State) (x : Intake) : (s.setIntake x).bus = s.bus := rfl
@[simp] theorem State.setIntake_peers (s : State) (x : Intake) : (s.setIntake x).peers = s.peers := rfl
@[simp] theorem State.setIntake_intake (s : State) (x : Intake) : (s.setIntake x).intake = x := rfl
@[simp] theorem State.setIntake_power (s : State) (x : Intake) : (s.setIntake x).power = s.power := rfl
@[simp] theorem State.setIntake_bridgeA (s : State) (x : Intake) : (s.setIntake x).bridgeA = s.bridgeA := rfl
@[simp] theorem State.setIntake_bridgeB (s : State) (x : Intake) : (s.setIntake x).bridgeB = s.bridgeB := rfl
@[simp] theorem State.setIntake_steer (s : State) (x : Intake) : (s.setIntake x).steer = s.steer := rfl
@[simp] theorem State.setIntake_drive (s : State) (x : Intake) : (s.setIntake x).drive = s.drive := rfl
@[simp] theorem State.setIntake_winch (s : State) (x : Intake) : (s.setIntake x).winch = s.winch := rfl
@[simp] theorem State.setIntake_lights (s : State) (x : Intake) : (s.setIntake x).lights = s.lights := rfl
@[simp] theorem State.setIntake_monitor (s : State) (x : Intake) : (s.setIntake x).monitor = s.monitor := rfl
@[simp] theorem State.setIntake_pending (s : State) (x : Intake) : (s.setIntake x).pending = s.pending := rfl

@[simp] theorem State.setPower_now (s : State) (x : Power) : (s.setPower x).now = s.now := rfl
@[simp] theorem State.setPower_pins (s : State) (x : Power) : (s.setPower x).pins = s.pins := rfl
@[simp] theorem State.setPower_node (s : State) (x : Power) : (s.setPower x).node = s.node := rfl
@[simp] theorem State.setPower_bus (s : State) (x : Power) : (s.setPower x).bus = s.bus := rfl
@[simp] theorem State.setPower_peers (s : State) (x : Power) : (s.setPower x).peers = s.peers := rfl
@[simp] theorem State.setPower_intake (s : State) (x : Power) : (s.setPower x).intake = s.intake := rfl
@[simp] theorem State.setPower_power (s : State) (x : Power) : (s.setPower x).power = x := rfl
@[simp] theorem State.setPower_bridgeA (s : State) (x : Power) : (s.setPower x).bridgeA = s.bridgeA := rfl
@[simp] theorem State.setPower_bridgeB (s : State) (x : Power) : (s.setPower x).bridgeB = s.bridgeB := rfl
@[simp] theorem State.setPower_steer (s : State) (x : Power) : (s.setPower x).steer = s.steer := rfl
@[simp] theorem State.setPower_drive (s : State) (x : Power) : (s.setPower x).drive = s.drive := rfl
@[simp] theorem State.setPower_winch (s : State) (x : Power) : (s.setPower x).winch = s.winch := rfl
@[simp] theorem State.setPower_lights (s : State) (x : Power) : (s.setPower x).lights = s.lights := rfl
@[simp] theorem State.setPower_monitor (s : State) (x : Power) : (s.setPower x).monitor = s.monitor := rfl
@[simp] theorem State.setPower_pending (s : State) (x : Power) : (s.setPower x).pending = s.pending := rfl

@[simp] theorem State.setBridgeA_now (s : State) (x : Bridge) : (s.setBridgeA x).now = s.now := rfl
@[simp] theorem State.setBridgeA_pins (s : State) (x : Bridge) : (s.setBridgeA x).pins = s.pins := rfl
@[simp] theorem State.setBridgeA_node (s : State) (x : Bridge) : (s.setBridgeA x).node = s.node := rfl
@[simp] theorem State.setBridgeA_bus (s : State) (x : Bridge) : (s.setBridgeA x).bus = s.bus := rfl
@[simp] theorem State.setBridgeA_peers (s : State) (x : Bridge) : (s.setBridgeA x).peers = s.peers := rfl
@[simp] theorem State.setBridgeA_intake (s : State) (x : Bridge) : (s.setBridgeA x).intake = s.intake := rfl
@[simp] theorem State.setBridgeA_power (s : State) (x : Bridge) : (s.setBridgeA x).power = s.power := rfl
@[simp] theorem State.setBridgeA_bridgeA (s : State) (x : Bridge) : (s.setBridgeA x).bridgeA = x := rfl
@[simp] theorem State.setBridgeA_bridgeB (s : State) (x : Bridge) : (s.setBridgeA x).bridgeB = s.bridgeB := rfl
@[simp] theorem State.setBridgeA_steer (s : State) (x : Bridge) : (s.setBridgeA x).steer = s.steer := rfl
@[simp] theorem State.setBridgeA_drive (s : State) (x : Bridge) : (s.setBridgeA x).drive = s.drive := rfl
@[simp] theorem State.setBridgeA_winch (s : State) (x : Bridge) : (s.setBridgeA x).winch = s.winch := rfl
@[simp] theorem State.setBridgeA_lights (s : State) (x : Bridge) : (s.setBridgeA x).lights = s.lights := rfl
@[simp] theorem State.setBridgeA_monitor (s : State) (x : Bridge) : (s.setBridgeA x).monitor = s.monitor := rfl
@[simp] theorem State.setBridgeA_pending (s : State) (x : Bridge) : (s.setBridgeA x).pending = s.pending := rfl

@[simp] theorem State.setBridgeB_now (s : State) (x : Bridge) : (s.setBridgeB x).now = s.now := rfl
@[simp] theorem State.setBridgeB_pins (s : State) (x : Bridge) : (s.setBridgeB x).pins = s.pins := rfl
@[simp] theorem State.setBridgeB_node (s : State) (x : Bridge) : (s.setBridgeB x).node = s.node := rfl
@[simp] theorem State.setBridgeB_bus (s : State) (x : Bridge) : (s.setBridgeB x).bus = s.bus := rfl
@[simp] theorem State.setBridgeB_peers (s : State) (x : Bridge) : (s.setBridgeB x).peers = s.peers := rfl
@[simp] theorem State.setBridgeB_intake (s : State) (x : Bridge) : (s.setBridgeB x).intake = s.intake := rfl
@[simp] theorem State.setBridgeB_power (s : State) (x : Bridge) : (s.setBridgeB x).power = s.power := rfl
@[simp] theorem State.setBridgeB_bridgeA (s : State) (x : Bridge) : (s.setBridgeB x).bridgeA = s.bridgeA := rfl
@[simp] theorem State.setBridgeB_bridgeB (s : State) (x : Bridge) : (s.setBridgeB x).bridgeB = x := rfl
@[simp] theorem State.setBridgeB_steer (s : State) (x : Bridge) : (s.setBridgeB x).steer = s.steer := rfl
@[simp] theorem State.setBridgeB_drive (s : State) (x : Bridge) : (s.setBridgeB x).drive = s.drive := rfl
@[simp] theorem State.setBridgeB_winch (s : State) (x : Bridge) : (s.setBridgeB x).winch = s.winch := rfl
@[simp] theorem State.setBridgeB_lights (s : State) (x : Bridge) : (s.setBridgeB x).lights = s.lights := rfl
@[simp] theorem State.setBridgeB_monitor (s : State) (x : Bridge) : (s.setBridgeB x).monitor = s.monitor := rfl
@[simp] theorem State.setBridgeB_pending (s : State) (x : Bridge) : (s.setBridgeB x).pending = s.pending := rfl

@[simp] theorem State.setSteer_now (s : State) (x : Steer) : (s.setSteer x).now = s.now := rfl
@[simp] theorem State.setSteer_pins (s : State) (x : Steer) : (s.setSteer x).pins = s.pins := rfl
@[simp] theorem State.setSteer_node (s : State) (x : Steer) : (s.setSteer x).node = s.node := rfl
@[simp] theorem State.setSteer_bus (s : State) (x : Steer) : (s.setSteer x).bus = s.bus := rfl
@[simp] theorem State.setSteer_peers (s : State) (x : Steer) : (s.setSteer x).peers = s.peers := rfl
@[simp] theorem State.setSteer_intake (s : State) (x : Steer) : (s.setSteer x).intake = s.intake := rfl
@[simp] theorem State.setSteer_power (s : State) (x : Steer) : (s.setSteer x).power = s.power := rfl
@[simp] theorem State.setSteer_bridgeA (s : State) (x : Steer) : (s.setSteer x).bridgeA = s.bridgeA := rfl
@[simp] theorem State.setSteer_bridgeB (s : State) (x : Steer) : (s.setSteer x).bridgeB = s.bridgeB := rfl
@[simp] theorem State.setSteer_steer (s : State) (x : Steer) : (s.setSteer x).steer = x := rfl
@[simp] theorem State.setSteer_drive (s : State) (x : Steer) : (s.setSteer x).drive = s.drive := rfl
@[simp] theorem State.setSteer_winch (s : State) (x : Steer) : (s.setSteer x).winch = s.winch := rfl
@[simp] theorem State.setSteer_lights (s : State) (x : Steer) : (s.setSteer x).lights = s.lights := rfl
@[simp] theorem State.setSteer_monitor (s : State) (x : Steer) : (s.setSteer x).monitor = s.monitor := rfl
@[simp] theorem State.setSteer_pending (s : State) (x : Steer) : (s.setSteer x).pending = s.pending := rfl

@[simp] theorem State.setDrive_now (s : State) (x : Drive) : (s.setDrive x).now = s.now := rfl
@[simp] theorem State.setDrive_pins (s : State) (x : Drive) : (s.setDrive x).pins = s.pins := rfl
@[simp] theorem State.setDrive_node (s : State) (x : Drive) : (s.setDrive x).node = s.node := rfl
@[simp] theorem State.setDrive_bus (s : State) (x : Drive) : (s.setDrive x).bus = s.bus := rfl
@[simp] theorem State.setDrive_peers (s : State) (x : Drive) : (s.setDrive x).peers = s.peers := rfl
@[simp] theorem State.setDrive_intake (s : State) (x : Drive) : (s.setDrive x).intake = s.intake := rfl
@[simp] theorem State.setDrive_power (s : State) (x : Drive) : (s.setDrive x).power = s.power := rfl
@[simp] theorem State.setDrive_bridgeA (s : State) (x : Drive) : (s.setDrive x).bridgeA = s.bridgeA := rfl
@[simp] theorem State.setDrive_bridgeB (s : State) (x : Drive) : (s.setDrive x).bridgeB = s.bridgeB := rfl
@[simp] theorem State.setDrive_steer (s : State) (x : Drive) : (s.setDrive x).steer = s.steer := rfl
@[simp] theorem State.setDrive_drive (s : State) (x : Drive) : (s.setDrive x).drive = x := rfl
@[simp] theorem State.setDrive_winch (s : State) (x : Drive) : (s.setDrive x).winch = s.winch := rfl
@[simp] theorem State.setDrive_lights (s : State) (x : Drive) : (s.setDrive x).lights = s.lights := rfl
@[simp] theorem State.setDrive_monitor (s : State) (x : Drive) : (s.setDrive x).monitor = s.monitor := rfl
@[simp] theorem State.setDrive_pending (s : State) (x : Drive) : (s.setDrive x).pending = s.pending := rfl

@[simp] theorem State.setWinch_now (s : State) (x : Winch) : (s.setWinch x).now = s.now := rfl
@[simp] theorem State.setWinch_pins (s : State) (x : Winch) : (s.setWinch x).pins = s.pins := rfl
@[simp] theorem State.setWinch_node (s : State) (x : Winch) : (s.setWinch x).node = s.node := rfl
@[simp] theorem State.setWinch_bus (s : State) (x : Winch) : (s.setWinch x).bus = s.bus := rfl
@[simp] theorem State.setWinch_peers (s : State) (x : Winch) : (s.setWinch x).peers = s.peers := rfl
@[simp] theorem State.setWinch_intake (s : State) (x : Winch) : (s.setWinch x).intake = s.intake := rfl
@[simp] theorem State.setWinch_power (s : State) (x : Winch) : (s.setWinch x).power = s.power := rfl
@[simp] theorem State.setWinch_bridgeA (s : State) (x : Winch) : (s.setWinch x).bridgeA = s.bridgeA := rfl
@[simp] theorem State.setWinch_bridgeB (s : State) (x : Winch) : (s.setWinch x).bridgeB = s.bridgeB := rfl
@[simp] theorem State.setWinch_steer (s : State) (x : Winch) : (s.setWinch x).steer = s.steer := rfl
@[simp] theorem State.setWinch_drive (s : State) (x : Winch) : (s.setWinch x).drive = s.drive := rfl
@[simp] theorem State.setWinch_winch (s : State) (x : Winch) : (s.setWinch x).winch = x := rfl
@[simp] theorem State.setWinch_lights (s : State) (x : Winch) : (s.setWinch x).lights = s.lights := rfl
@[simp] theorem State.setWinch_monitor (s : State) (x : Winch) : (s.setWinch x).monitor = s.monitor := rfl
@[simp] theorem State.setWinch_pending (s : State) (x : Winch) : (s.setWinch x).pending = s.pending := rfl

@[simp] theorem State.setLights_now (s : State) (x : Lights) : (s.setLights x).now = s.now := rfl
@[simp] theorem State.setLights_pins (s : State) (x : Lights) : (s.setLights x).pins = s.pins := rfl
@[simp] theorem State.setLights_node (s : State) (x : Lights) : (s.setLights x).node = s.node := rfl
@[simp] theorem State.setLights_bus (s : State) (x : Lights) : (s.setLights x).bus = s.bus := rfl
@[simp] theorem State.setLights_peers (s : State) (x : Lights) : (s.setLights x).peers = s.peers := rfl
@[simp] theorem State.setLights_intake (s : State) (x : Lights) : (s.setLights x).intake = s.intake := rfl
@[simp] theorem State.setLights_power (s : State) (x : Lights) : (s.setLights x).power = s.power := rfl
@[simp] theorem State.setLights_bridgeA (s : State) (x : Lights) : (s.setLights x).bridgeA = s.bridgeA := rfl
@[simp] theorem State.setLights_bridgeB (s : State) (x : Lights) : (s.setLights x).bridgeB = s.bridgeB := rfl
@[simp] theorem State.setLights_steer (s : State) (x : Lights) : (s.setLights x).steer = s.steer := rfl
@[simp] theorem State.setLights_drive (s : State) (x : Lights) : (s.setLights x).drive = s.drive := rfl
@[simp] theorem State.setLights_winch (s : State) (x : Lights) : (s.setLights x).winch = s.winch := rfl
@[simp] theorem State.setLights_lights (s : State) (x : Lights) : (s.setLights x).lights = x := rfl
@[simp] theorem State.setLights_monitor (s : State) (x : Lights) : (s.setLights x).monitor = s.monitor := rfl
@[simp] theorem State.setLights_pending (s : State) (x : Lights) : (s.setLights x).pending = s.pending := rfl

@[simp] theorem State.setMonitor_now (s : State) (x : Monitor) : (s.setMonitor x).now = s.now := rfl
@[simp] theorem State.setMonitor_pins (s : State) (x : Monitor) : (s.setMonitor x).pins = s.pins := rfl
@[simp] theorem State.setMonitor_node (s : State) (x : Monitor) : (s.setMonitor x).node = s.node := rfl
@[simp] theorem State.setMonitor_bus (s : State) (x : Monitor) : (s.setMonitor x).bus = s.bus := rfl
@[simp] theorem State.setMonitor_peers (s : State) (x : Monitor) : (s.setMonitor x).peers = s.peers := rfl
@[simp] theorem State.setMonitor_intake (s : State) (x : Monitor) : (s.setMonitor x).intake = s.intake := rfl
@[simp] theorem State.setMonitor_power (s : State) (x : Monitor) : (s.setMonitor x).power = s.power := rfl
@[simp] theorem State.setMonitor_bridgeA (s : State) (x : Monitor) : (s.setMonitor x).bridgeA = s.bridgeA := rfl
@[simp] theorem State.setMonitor_bridgeB (s : State) (x : Monitor) : (s.setMonitor x).bridgeB = s.bridgeB := rfl
@[simp] theorem State.setMonitor_steer (s : State) (x : Monitor) : (s.setMonitor x).steer = s.steer := rfl
@[simp] theorem State.setMonitor_drive (s : State) (x : Monitor) : (s.setMonitor x).drive = s.drive := rfl
@[simp] theorem State.setMonitor_winch (s : State) (x : Monitor) : (s.setMonitor x).winch = s.winch := rfl
@[simp] theorem State.setMonitor_lights (s : State) (x : Monitor) : (s.setMonitor x).lights = s.lights := rfl
@[simp] theorem State.setMonitor_monitor (s : State) (x : Monitor) : (s.setMonitor x).monitor = x := rfl
@[simp] theorem State.setMonitor_pending (s : State) (x : Monitor) : (s.setMonitor x).pending = s.pending := rfl

@[simp] theorem State.setPending_now (s : State) (x : List Instr) : (s.setPending x).now = s.now := rfl
@[simp] theorem State.setPending_pins (s : State) (x : List Instr) : (s.setPending x).pins = s.pins := rfl
@[simp] theorem State.setPending_node (s : State) (x : List Instr) : (s.setPending x).node = s.node := rfl
@[simp] theorem State.setPending_bus (s : State) (x : List Instr) : (s.setPending x).bus = s.bus := rfl
@[simp] theorem State.setPending_peers (s : State) (x : List Instr) : (s.setPending x).peers = s.peers := rfl
@[simp] theorem State.setPending_intake (s : State) (x : List Instr) : (s.setPending x).intake = s.intake := rfl
@[simp] theorem State.setPending_power (s : State) (x : List Instr) : (s.setPending x).power = s.power := rfl
@[simp] theorem State.setPending_bridgeA (s : State) (x : List Instr) : (s.setPending x).bridgeA = s.bridgeA := rfl
@[simp] theorem State.setPending_bridgeB (s : State) (x : List Instr) : (s.setPending x).bridgeB = s.bridgeB := rfl
@[simp] theorem State.setPending_steer (s : State) (x : List Instr) : (s.setPending x).steer = s.steer := rfl
@[simp] theorem State.setPending_drive (s : State) (x : List Instr) : (s.setPending x).drive = s.drive := rfl
@[simp] theorem State.setPending_winch (s : State) (x : List Instr) : (s.setPending x).winch = s.winch := rfl
@[simp] theorem State.setPending_lights (s : State) (x : List Instr) : (s.setPending x).lights = s.lights := rfl
@[simp] theorem State.setPending_monitor (s : State) (x : List Instr) : (s.setPending x).monitor = s.monitor := rfl
@[simp] theorem State.setPending_pending (s : State) (x : List Instr) : (s.setPending x).pending = x := rfl

/-- An update repeated keeps the last value. -/
@[simp] theorem State.setPending_setPending (s : State) (x y : List Instr) : (s.setPending x).setPending y = s.setPending y :=
  rfl

end Sys2Proof.Machine
end

