-- ==== Sys2Proof/Laws/Ops.lean ====
section
/-! SUPPORT. For each shared operation, what it can do, said once. -/

namespace Sys2Proof.Machine

/-! ## Arithmetic -/

theorem bumpTo_eq_min (top n : Nat) : bumpTo top n = min top (n + 1) := by
  unfold bumpTo; split <;> omega

theorem bumpTo_le (top n : Nat) : bumpTo top n ≤ top := by
  unfold bumpTo; split <;> omega

theorem clampInt_range (lo hi x : Int) (h : lo ≤ hi) : lo ≤ clampInt lo hi x ∧ clampInt lo hi x ≤ hi := by
  unfold clampInt; split
  · omega
  · split <;> omega

theorem clampInt_eq_self (lo hi x : Int) (h : lo ≤ x ∧ x ≤ hi) : clampInt lo hi x = x := by
  unfold clampInt; split
  · omega
  · split <;> omega

theorem clampNat_range (lo hi x : Nat) (h : lo ≤ hi) : lo ≤ clampNat lo hi x ∧ clampNat lo hi x ≤ hi := by
  unfold clampNat; split
  · omega
  · split <;> omega

@[simp] theorem Quad.get_put_self {α : Type} (q : Quad α) (l : Lamp) (x : α) : (q.put l x).get l = x := by
  cases l <;> rfl

theorem Quad.get_put_other {α : Type} (q : Quad α) (l m : Lamp) (x : α) (h : m ≠ l) : (q.put l x).get m = q.get m := by
  cases l <;> cases m <;> first | rfl | exact absurd rfl h

/-! ## The transmit set -/

@[simp] theorem Slots.get_put_self (x : Slots) (k : TxKind) (sl : Slot) : (x.put k sl).get k = sl := by
  cases k <;> rfl

theorem Slots.get_put_other (x : Slots) (k j : TxKind) (sl : Slot) (h : j ≠ k) : (x.put k sl).get j = x.get j := by
  cases k <;> cases j <;> first | rfl | exact absurd rfl h

theorem Slots.put_get (x : Slots) (k : TxKind) : x.put k (x.get k) = x := by
  cases k <;> rfl

theorem Slot.place_empty (onLine : Bool) (f : TxFrame) (sl : Slot) (h : sl.held = none) :
    sl.place onLine f = ({ sl with held := some (Held.fresh f) }, false) := by
  simp [Slot.place, h]

theorem Slot.place_pending (f : TxFrame) (sl : Slot) (h : Held) (hh : sl.held = some h) (hc : h.committed = false) :
    sl.place false f = ({ sl with held := some { h with frame := f } }, true) := by
  simp [Slot.place, hh, hc]

theorem Slot.place_behind (onLine : Bool) (f : TxFrame) (sl : Slot) (h : Held) (hh : sl.held = some h)
    (hc : (h.committed || onLine) = true) : sl.place onLine f = ({ sl with next := some f }, sl.next.isSome) := by
  simp only [Slot.place, hh]
  rw [if_pos hc]

/-- A placement leaves a held frame in the slot. -/
theorem Slot.place_held (onLine : Bool) (f : TxFrame) (sl : Slot) : (sl.place onLine f).1.held.isSome = true := by
  unfold Slot.place
  cases h : sl.held with
  | none => rfl
  | some x => dsimp only; split <;> simp

/-- A placement changes the slots and, for ANSWER, its counter. -/
theorem placeFrame_frame (k : TxKind) (payload : List Byte) (s : State) :
    placeFrame k payload s = s.setBus { s.bus with
      slots := (placeFrame k payload s).bus.slots
      counters := { s.bus.counters with answerDrops := (placeFrame k payload s).bus.counters.answerDrops } } := by
  unfold placeFrame
  cases stationOf s with
  | none => rfl
  | some n => dsimp only; split <;> rfl

/-- The slot a placement fills. -/
theorem placeFrame_slot (k : TxKind) (payload : List Byte) (s : State) (n : Nat) (h : stationOf s = some n) :
    (placeFrame k payload s).bus.slots =
      s.bus.slots.put k ((s.bus.slots.get k).place (lineKind s = some k) { sender := n, payload }).1 := by
  simp only [placeFrame, h]
  split <;> rfl

theorem placeFrame_unplaced (k : TxKind) (payload : List Byte) (s : State) (h : stationOf s = none) :
    placeFrame k payload s = s := by
  simp [placeFrame, h]

/-! ## Settling -/

theorem settle_quiet (s : State) (h : s.node.eventDue = false) : settle s = s := by
  simp [settle, h]

theorem settle_held (s : State) (ms : Nat) (h : s.node.eventDue = true) (hs : s.node.sinceReport = some ms) (hm : ms < 5) :
    settle s = s.setNode { s.node with eventDue := false, heldEvent := true } := by
  have h5 : ¬ 5 ≤ ms := by omega
  simp [settle, h, hs, h5]
  rfl

theorem settle_report (s : State) (h : s.node.eventDue = true) (hs : ∀ ms, s.node.sinceReport = some ms → 5 ≤ ms) :
    settle s = placeReport (s.setNode { s.node with eventDue := false }) := by
  cases hc : s.node.sinceReport with
  | none => simp [settle, h, hc]
  | some ms => simp [settle, h, hc, hs ms hc]

/-- An event marks the state or leaves it. -/
theorem raiseEvent_cases (e : ReportEvent) (s : State) :
    raiseEvent e s = s ∨ raiseEvent e s = s.setNode { s.node with eventDue := true } := by
  unfold raiseEvent; split
  · exact .inr rfl
  · exact .inl rfl

/-! ## Fault records -/

theorem addFaultIn_faults (st : NodeState) (kind : FaultKind) (output : FaultOutput) (detail : Int) (s : State) :
    (addFaultIn st kind output detail s).monitor.faults =
      ({ kind, output, state := st, uptime := s.node.uptime, detail := clampInt (-32768) 32767 detail }
        :: s.monitor.faults).take 8 := by
  unfold addFaultIn
  rcases raiseEvent_cases .faultAdded (s.setMonitor { s.monitor with
    faults := ({ kind, output, state := st, uptime := s.node.uptime, detail := clampInt (-32768) 32767 detail }
      :: s.monitor.faults).take 8 }) with h | h <;> rw [h] <;> rfl

/-! ## Bridges and the drum -/

@[simp] theorem Bridge.force_active (b : Bridge) (mode : BridgeMode) (duty : Nat) : (b.force mode duty).active = ⟨mode, duty⟩ :=
  rfl

@[simp] theorem Bridge.force_next (b : Bridge) (mode : BridgeMode) (duty : Nat) : (b.force mode duty).next = ⟨mode, duty⟩ := rfl

/-- A change at once keeps every setting left in the period, and adds the one it replaces (R140, R142). -/
theorem Bridge.mem_force_atOnce {b : Bridge} {mode : BridgeMode} {duty : Nat} {x : Setting} :
    x ∈ (b.force mode duty).atOnce ↔ x ∈ b.atOnce ∨ (x = b.active ∧ b.active ≠ ⟨mode, duty⟩) := by
  unfold Bridge.force
  split <;> simp_all [or_comm]

/-- The dead time stands between the high side and the low side of a leg that switches both (R140). -/
theorem legUnder_apart (leg : Leg) (dragBrake deadTime : Nat) (set : Setting) :
    let p := legUnder leg dragBrake deadTime set
    p.highFrom = 0 ∧ (p.highTo = 0 ∨ p.lowFrom = p.lowTo ∨ p.highTo + deadTime ≤ p.lowFrom) := by
  cases set with
  | mk mode duty =>
    cases mode <;> cases leg <;> simp only [legUnder, LegPeriod.off, LegPeriod.low, LegPeriod.switching] <;>
      first | (split <;> simp) | simp

/-- The dead time stands between the two sides of a leg in every period (R140, R142). -/
theorem presentLeg_apart (leg : Leg) (dragBrake deadTime : Nat) (b : Bridge) :
    let p := presentLeg leg dragBrake deadTime b
    p.highTo ≤ p.highFrom ∨ p.lowTo ≤ p.lowFrom ∨ p.highTo + deadTime ≤ p.lowFrom := by
  have h := legUnder_apart leg dragBrake deadTime b.active
  generalize hp : legUnder leg dragBrake deadTime b.active = p at h
  simp only [presentLeg, hp, LegPeriod.after, LegPeriod.before, LegPeriod.startsHigh]
  dsimp only at h
  split <;> split <;> (try split) <;> simp_all <;> omega

/-- A low side that starts the present setting waits for the dead time when the high side may have been on before, under any
setting left in the period (R140, R142). -/
theorem presentLeg_low_waits (leg : Leg) (dragBrake deadTime : Nat) (b : Bridge)
    (high : leftHigh (legUnder leg dragBrake deadTime) b = true)
    (low : (legUnder leg dragBrake deadTime b.active).startsHigh = false) :
    let p := presentLeg leg dragBrake deadTime b
    p.lowTo ≤ p.lowFrom ∨ deadTime ≤ p.lowFrom := by
  simp only [presentLeg, LegPeriod.after, LegPeriod.before, high, low]
  split <;> simp_all <;> omega

/-- All that braking bridge A at once does (R142, R158): its setting, the ramp and the integrator. -/
theorem brakeBridgeA_eq (s : State) : brakeBridgeA s = { s with
    bridgeA := s.bridgeA.force (safeModeA s) 0, drive := { s.drive with ramped := 0, integrator := 0 } } := rfl

/-- At SHUTDOWN bridge A is braked, but a trip wait leaves it as it is (R146). -/
theorem shutBridgeA_cases (s : State) :
    (s.drive.tripWait = none ∧ shutBridgeA s = brakeBridgeA s) ∨
    (s.drive.tripWait ≠ none ∧ shutBridgeA s = { s with drive := { s.drive with ramped := 0, integrator := 0 } }) := by
  unfold shutBridgeA
  cases h : s.drive.tripWait
  · exact .inl ⟨rfl, by simp⟩
  · exact .inr ⟨by simp, by simp [zeroDrive, State.setDrive]⟩

/-- All that clearing the marks changes (R97, R106). -/
theorem clearMarks_eq (s : State) : clearMarks s = { s with
    bridgeA := { s.bridgeA with used := drivesMode s.bridgeA.active.mode }
    bridgeB := { s.bridgeB with used := drivesMode s.bridgeB.active.mode }
    drive := { s.drive with limited := false }, steer := { s.steer with limited := false }
    winch := { s.winch with drumLimited := false, solenoidLimited := false } } := rfl

theorem setDrum_same (s : State) : setDrum s.winch.drum s = s := by
  simp [setDrum]

/-- The operation record is closed, and logged only from a running drum. -/
theorem closeOperation_cases (reason : EndReason) (s : State) :
    (s.winch.op = none ∧ closeOperation reason s = s) ∨
    (∃ r, s.winch.op = some r ∧ closeOperation reason s = s.setWinch { s.winch with
      op := none
      log := if isRunningDrum s.winch.drum then (logOf r reason s :: s.winch.log).take 4 else s.winch.log }) := by
  unfold closeOperation
  cases h : s.winch.op with
  | none => exact .inl ⟨rfl, rfl⟩
  | some r =>
    refine .inr ⟨r, rfl, ?_⟩
    dsimp only
    split <;> rfl

/-! ## Grants -/

/-- Dividing gives each consumer the lesser of its demand and the remainder, in order, never more than the allowance. -/
theorem divideGrants_spec (a : Nat) (d : Consumers) :
    let g := divideGrants a d
    g.bridgeB = min d.bridgeB a ∧ g.required = min d.required (a - g.bridgeB) ∧
    g.bridgeA = min d.bridgeA (a - g.bridgeB - g.required) ∧
    g.aux = min d.aux (a - g.bridgeB - g.required - g.bridgeA) ∧
    g.bridgeB + g.required + g.bridgeA + g.aux ≤ a := by
  refine ⟨rfl, rfl, rfl, rfl, ?_⟩
  simp only [divideGrants]
  omega

theorem moveCeiling_range (current grant ceiling : Nat) (h : ceiling ≤ 1000) : moveCeiling current grant ceiling ≤ 1000 := by
  unfold moveCeiling; split <;> omega

/-- The worse of two levels is one of them, and no better than either. -/
theorem worse_cases (a b : Protection) : (worse a b = a ∨ worse a b = b) ∧ levelRank a ≤ levelRank (worse a b) ∧
    levelRank b ≤ levelRank (worse a b) := by
  cases a <;> cases b <;> decide

end Sys2Proof.Machine
end

