-- ==== Sys2Proof/WellFormed.lean ====
section
/-! DEFINITION. Which commands are well formed: each operand within the range its rule gives the reading. The
meanings are total; they clamp or test an operand where the rule says so. -/

namespace Sys2Proof

/-- A POT reading lies in 0 to 4095 counts (Table 0-4). -/
def potWf (pot : Nat) : Bool := pot ≤ 4095

/-- The operand checks, command by command. -/
def Instr.wf : Instr → Bool
  | .frameReceived bytes => 3 ≤ bytes.length && bytes.length ≤ 15
  | .peerLost station => 1 ≤ station && station ≤ 8
  | .actuatorTick pot _ => potWf pot
  | .steerSensorLost pot => potWf pot && (pot < 100 || 3995 < pot)
  | .encoderEdge _ interval => 1 ≤ interval && interval ≤ 250000
  | .limitAcceptance sw0 sw1 => sw0.isSome || sw1.isSome
  | .lampShort _ current => 30 < current
  | .lampRatingEnd mean => mean ≤ 30
  | .lampRatingShort current => 30 < current
  | .sweepStopFound pot => potWf pot
  | .supplyDip vpack => vpack < 5500
  | .bridgeBTrip current => 40 < current
  | .thermalSensorFault _ reading => reading < -40 || 180 < reading
  | .powerOnReset => true
  | .busIdle => true
  | .receptionFailed _ => true
  | .breakRecognised => true
  | .attemptStart => true
  | .arbitrationLost => true
  | .lineFault => true
  | .collision => true
  | .backoffExpiry _ => true
  | .attemptComplete => true
  | .breakEnd => true
  | .strapReadSuccess _ => true
  | .strapReadFail _ => true
  | .silenceTimerExpiry => true
  | .defaultTimerExpiry => true
  | .config => true
  | .assign => true
  | .ownStationFrame => true
  | .conflictNoticeTimer => true
  | .uptimeTick => true
  | .reportTimerExpiry => true
  | .heldEventSpacingExpiry => true
  | .report => true
  | .winch => true
  | .winchLinkExpiry => true
  | .checkRecord => true
  | .fault => true
  | .winchLog => true
  | .counters => true
  | .image => true
  | .budget => true
  | .restart => true
  | .recheck => true
  | .queryUnknownCode => true
  | .command => true
  | .linkExpiry => true
  | .failsafeStage2 => true
  | .budgetTick _ => true
  | .peerCutoffTest => true
  | .steerStall => true
  | .stallLimitEnd => true
  | .driveTick _ => true
  | .encoderEdgeTimeout => true
  | .encoderLost => true
  | .encoderRecovered => true
  | .overcurrentTrip _ => true
  | .tripWaitEnd => true
  | .controlTick _ _ => true
  | .engageDelayEnd => true
  | .winchStall => true
  | .winchTimerExpiry => true
  | .beatEvent => true
  | .beatTaken => true
  | .supplyTestRetry _ => true
  | .pullTestEnd _ _ => true
  | .loadPulseEnd _ => true
  | .loadPulseTrip _ => true
  | .lampPresenceTestEnd _ _ => true
  | .sweepPhaseTimeout => true
  | .sweepFault => true
  | .sweepReturnEnd => true
  | .bridgeBTripWaitEnd => true
  | .temperatureReading _ _ => true
  | .frameStart => true
  | .pwmPeriodBoundary => true

end Sys2Proof
end

