-- ==== Sys2Proof/Tests/Slice0.lean ====
section
/-! SUPPORT. Tests: an ill-formed command for each check of WellFormed, single steps against the manual's worked cases and
tables, and for each statement with hypotheses a state and operands that meet them. -/

namespace Sys2Proof.Tests

set_option Elab.async false

open Sys2Proof Sys2Proof.Machine Sys2Proof.Safety

/-! ## States to test on -/

/-- A node in a state at a position, with the default image in force. -/
def placed (st : NodeState) (p : Position) : State :=
  { State.reset with
    node := { Node.reset with state := st, position := some p, image := some defaultImage }
    drive := { Drive.reset with
      figures := if isCorner p then some { circumference := 346, vMaxCps := 1561 } else none } }

/-- The same, with bridge A at a setting. -/
def driving (st : NodeState) (p : Position) (set : Setting) : State :=
  (placed st p).setBridgeA { Bridge.reset with next := set, active := set, used := true }

/-- The state with one frame queued. -/
def withFrame (f : RxFrame) (s : State) : State := s.setBus { s.bus with queue := [f] }

/-- A COMMAND of a console: sequence 1, throttle, steer and lever, no modes, no flags. -/
def commandFrame (throttle : Byte) : RxFrame :=
  { kind := .command, sender := 12, own := false
    payload := [1#8, 0#8, throttle, 0#8, 0#8, 0#8, 0#8, 0#8, 0#8] }

/-- What a step leaves. -/
def after (a : Answer) (s : State) : State :=
  match a with
  | .next t => t
  | .fault _ => s
  | .refused _ => s

/-- One command on a state. -/
def runs (c : Instr) (s : State) : State := after (exec c s) s

/-! ## Ill-formed commands -/

theorem test_wf_frame_short : (Instr.frameReceived [1#8, 0#8]).wf = false := by decide
theorem test_wf_peer_station : (Instr.peerLost 9).wf = false := by decide
theorem test_wf_actuator_pot : (Instr.actuatorTick 4096 0).wf = false := by decide
theorem test_wf_sensor_in_range : (Instr.steerSensorLost 2000).wf = false := by decide
theorem test_wf_edge_interval : (Instr.encoderEdge .forward 0).wf = false := by decide
theorem test_wf_limit_none : (Instr.limitAcceptance none none).wf = false := by decide
theorem test_wf_lamp_short : (Instr.lampShort .l0 30).wf = false := by decide
theorem test_wf_rating_mean : (Instr.lampRatingEnd 31).wf = false := by decide
theorem test_wf_rating_short : (Instr.lampRatingShort 30).wf = false := by decide
theorem test_wf_sweep_pot : (Instr.sweepStopFound 4096).wf = false := by decide
theorem test_wf_supply_dip : (Instr.supplyDip 5500).wf = false := by decide
theorem test_wf_bridge_b_trip : (Instr.bridgeBTrip 40).wf = false := by decide
theorem test_wf_sensor_fault : (Instr.thermalSensorFault .ts1 180).wf = false := by decide
theorem test_wf_accepts : (Instr.actuatorTick 4095 0).wf = true ∧ (Instr.peerLost 8).wf = true := by decide

/-! ## The manual's worked cases -/

/-- No row of the table has bits. -/
theorem test_decode_no_bits : decodeTableWord 0 0 = none := by decide

/-- R4: the CRC of 0x31 to 0x39. -/
theorem test_crc_check_value :
    crc8 [0x31#8, 0x32#8, 0x33#8, 0x34#8, 0x35#8, 0x36#8, 0x37#8, 0x38#8, 0x39#8] = 0xB4#8 := by decide +kernel

/-- R112: 21.0 and 0.4 degrees. -/
theorem test_tangent_examples : tanOf 210 = 1572 ∧ tanOf 4 = 29 ∧ tanOf 450 = 4096 := by decide +kernel

/-- R113 and the notes to Table 6-8. -/
theorem test_arctangent_examples : atanOf 1212 = 165 ∧ atanOf 2237 = 286 ∧ atanOf 4096 = 450 := by decide +kernel

/-- The image of the worked case: x_front +155 mm, x_rear -155 mm. -/
def workedImage : Image :=
  { defaultFields with steer := { defaultFields.steer with xFront := 155, xRear := -155 } }

/-- Table 6-8, FL: +16.5 degrees, OUTER, q 1000, indicator RIGHT. -/
theorem test_worked_fl : geometryOf workedImage .fl .counter 600 .right =
    { mode := .counter, straight := false, target := 165, side := .outer, q := 1000, indicator := .right } := by
  decide +kernel

/-- Table 6-8, FR: +28.6 degrees, INNER, q 592. -/
theorem test_worked_fr : geometryOf workedImage .fr .counter 600 .right =
    { mode := .counter, straight := false, target := 286, side := .inner, q := 592, indicator := .right } := by
  decide +kernel

/-- Table 6-8, RR: -28.6 degrees, INNER, q 592. -/
theorem test_worked_rr : geometryOf workedImage .rr .counter 600 .right =
    { mode := .counter, straight := false, target := -286, side := .inner, q := 592, indicator := .right } := by
  decide +kernel

/-- Table 6-9: straight at s = +10; at s = +20 +0.7 degrees and q 981 on the inner side. -/
theorem test_worked_small_steer :
    geometryOf workedImage .fl .counter 10 .none = Geometry.straightIn .counter ∧
    geometryOf workedImage .fr .counter 20 .none =
      { mode := .counter, straight := false, target := 7, side := .inner, q := 981, indicator := .none } := by
  decide +kernel

/-- R128: the wheel figures of the default image. -/
theorem test_wheel_figures : wheelFigures defaultFields.drive = { circumference := 346, vMaxCps := 1561 } := by decide

/-- Table 5-9: an allowance of 99 dA. -/
theorem test_grants_fl : divideGrants 99 { bridgeB := 10, required := 4, bridgeA := 120, aux := 6 } =
    { bridgeB := 10, required := 4, bridgeA := 85, aux := 0 } := by decide

/-- R37: the bytes of the default image give the default fields. -/
theorem test_default_image : imageFields (defaultBytes ++ [crc8 defaultBytes]) = defaultFields := by decide +kernel

/-- R3: a BEAT of one byte takes 42 bit times. -/
theorem test_frame_length : (frameLine (frameBytes .beat 3 [7#8])).length = 42 := by decide

/-- Table 5-8, stages 1 to 10 at FL, the own lamps taken as the rest of I_own. -/
def budgetFl : State :=
  let f := { defaultFields with
    vehicle := { defaultFields.vehicle with cellCount := 4, packMonitorPosition := 0 }
    power := { defaultFields.power with packLimit := 600, reserve := 20, rInt := 25, floor := 20, nodeCap := 250 } }
  let peer := fun (station current demand : Nat) =>
    ({ station, state := .run, level := .normal, current, demand, speed := 0, braking := false, steerLost := false
       age := 0 } : PeerEntry)
  let s := driving .run .fl ⟨.fwd, 500⟩
  { s with
    node := { s.node with image := some { defaultImage with fields := f } }
    peers := { s.peers with table := [peer 2 80 120, peer 5 90 150, peer 6 70 110, peer 7 150 300] }
    power := { s.power with running := true }
    bridgeB := { s.bridgeB with used := true } }

theorem test_budget_fl :
    let p := (runs (.budgetTick ⟨14200, 75, 10, Quad.all 0, Quad.all 0⟩) budgetFl).power
    p.iTotal = 475 ∧ p.drop = 1188 ∧ p.vRest = 15388 ∧ p.cellFigure = 3847 ∧ p.avail = 580 ∧ p.absentShare = 116 := by
  decide +kernel

/-- R48, R79: an entry of age 201 ms still in the table counts its current and its demand, and not as missing. -/
theorem test_budget_before_removal :
    let e : PeerEntry := { station := 7, state := .run, level := .cutoff, current := 150, demand := 300, speed := 0
                           braking := false, steerLost := false, age := 201 }
    let p := (runs (.budgetTick ⟨14200, 75, 10, Quad.all 0, Quad.all 0⟩)
      { budgetFl with peers := { budgetFl.peers with table := [e] } }).power
    p.iTotal = 75 + 10 + 150 ∧ p.missing = 3 ∧ p.tickLevel = .normal := by decide +kernel

/-! ## Single steps -/

theorem test_idle_readies_receiver : (runs .busIdle State.reset).bus.rx.state = .ready := by decide

theorem test_strap_read_enters_listen :
    (runs (.strapReadSuccess .fl) State.reset).node.state = .listen ∧
    (runs (.strapReadSuccess .fl) State.reset).bridgeA.active = ⟨.brake, 0⟩ := by decide +kernel

theorem test_break_enters_cutoff : (runs .breakRecognised (driving .run .fl ⟨.fwd, 500⟩)).node.state = .cutoff ∧
    (runs .breakRecognised (driving .run .fl ⟨.fwd, 500⟩)).bridgeA.active = ⟨.brake, 0⟩ := by decide +kernel

/-- R29: a neutral COMMAND arms, one with throttle 30 or more does not. -/
theorem test_neutral_command_arms :
    (runs .command (withFrame (commandFrame 29#8) (placed .safe .fl))).node.state = .run ∧
    (runs .command (withFrame (commandFrame 30#8) (placed .safe .fl))).node.state = .safe := by decide +kernel

/-- R68, R74: at the age of failsafe_timeout RUN becomes FAILSAFE; a COMMAND taken first has set the age to 0. -/
theorem test_lost_link_fails_safe :
    let bound := fun age => (placed .run .fl).setIntake { Intake.reset with bound := some 12, linkAge := some age }
    (runs .linkExpiry (bound 250)).node.state = .failsafe ∧ (runs .linkExpiry (bound 0)).node.state = .run := by
  decide +kernel

/-- R6: after a start bit read recessive two recessive bit times have been counted. -/
theorem test_failed_start_bit_counts_two :
    (runs (.receptionFailed .startPayloadOrCrc) (runs .frameStart (runs .busIdle State.reset))).bus.rx.recessiveRun = 2 := by
  decide +kernel

/-- R8, R16: an own attempt on the line loses arbitration at the header's stop bit, so the failure counts; at a later stop
bit it collides, so the failure is exempt. -/
theorem test_lost_arbitration_counts :
    let s := runs .frameStart (runs .busIdle State.reset)
    let on := { s with bus := { s.bus with tx := { s.bus.tx with attempt := some { kind := .report, line := [] } } } }
    (runs (.receptionFailed .headerStopBit) on).bus.counters.framingErrors = 1 ∧
    (runs (.receptionFailed .stopBit) on).bus.counters.framingErrors = 0 := by decide +kernel

/-- R120, R125: a stall is declared only while the loop runs. -/
theorem test_no_stall_of_a_suspended_loop :
    let s := (placed .run .fl).setSteer { Steer.reset with stallWindow := some { start := 0, angle := 0 } }
    (runs .steerStall s).steer.stallLimit = none ∧
    (runs .steerStall (s.setSteer { s.steer with loop := true })).steer.stallLimit = some 1000 := by decide +kernel

/-- R140 at a dead time of 500 ns: FWD 500 in steady state; BRAKE before FWD; full FWD, then BRAKE, at a boundary; FWD left
for BRAKE at once; FWD left at once for OFF, then BRAKE and OFF, then BRAKE again, in one period. -/
theorem test_dead_times :
    let leg := fun (left active next : Setting) (atOnce : List Setting) =>
      presentLeg .one 60 500 { left, active, next, atOnce, used := false }
    leg ⟨.fwd, 500⟩ ⟨.fwd, 500⟩ ⟨.fwd, 500⟩ [] = ⟨0, 25000, 25500, 49500⟩ ∧
    leg ⟨.brake, 0⟩ ⟨.brake, 0⟩ ⟨.fwd, 500⟩ [] = ⟨0, 0, 0, 49500⟩ ∧
    leg ⟨.fwd, 1000⟩ ⟨.brake, 0⟩ ⟨.brake, 0⟩ [] = ⟨0, 0, 500, 50000⟩ ∧
    leg ⟨.fwd, 500⟩ ⟨.brake, 0⟩ ⟨.brake, 0⟩ [⟨.fwd, 500⟩] = ⟨0, 0, 500, 50000⟩ ∧
    (let b : Bridge := { left := ⟨.fwd, 500⟩, active := ⟨.fwd, 500⟩, next := ⟨.fwd, 500⟩, atOnce := [], used := true }
     let tripped := (b.force .off 0).force .brake 0
     presentLeg .one 60 500 tripped = ⟨0, 0, 500, 50000⟩ ∧
     presentLeg .one 60 500 ((tripped.force .off 0).force .brake 0) = ⟨0, 0, 500, 50000⟩ ∧
     presentLeg .one 60 500 tripped.boundary = ⟨0, 0, 0, 50000⟩) := by decide

/-- R145, R193: a withdrawn bridge A in its BRAKE hold takes no trip. -/
theorem test_withdrawn_bridge_takes_no_trip :
    let s := driving .run .fl ⟨.brake, 0⟩
    let w := { s with monitor := { s.monitor with
      withdrawn := { s.monitor.withdrawn with bridgeA := true }, holdA := some .brake } }
    (runs (.overcurrentTrip 401) w).bridgeA = w.bridgeA ∧ (runs (.overcurrentTrip 401) w).monitor.faults = [] := by
  decide +kernel

/-- R202: I_total beyond its field is sent as 65535. -/
theorem test_budget_clamps : ((budgetData { State.reset with power := { State.reset.power with iTotal := 70000 } }).drop
    2).take 2 = [255#8, 255#8] := by decide +kernel

/-- R145: the third trip within 1000 ms withdraws bridge A. -/
theorem test_third_trip_withdraws :
    (runs (.overcurrentTrip 401) ((driving .run .fl ⟨.fwd, 500⟩).setDrive
      { Drive.reset with tripHistory := [0, 0] })).drive.wheelLost = true := by decide +kernel

/-- R17: at serial mod 16 = 0 the first backoff is 60 bit times, at 5 it is 110. -/
theorem test_backoff : backoffBits 0#24 1 = 60 ∧ backoffBits 5#24 1 = 110 := by decide

/-! ## Witnesses: states and operands that meet the hypotheses of the statements -/

/-- EmptyQueuePassesOneMillisecond. -/
theorem witness_empty_queue : (placed .run .fl).pending = [] := rfl

/-- EveryCommandGoesOn: a command that is neither of the two. -/
theorem witness_other_command : Instr.busIdle ≠ .uptimeTick ∧ Instr.busIdle ≠ .powerOnReset := by decide

theorem outputs_of_run : OutputsInv (driving .run .fl ⟨.fwd, 500⟩) where
  stepInCheck := by decide
  holdSafe := by intro m h; cases h
  nextA := fun _ => .inl (.inl rfl)
  activeA := fun _ => .inl (.inl rfl)
  nextB := by intro h; exact absurd rfl h
  activeB := by intro h; exact absurd rfl h

theorem outputs_at_rest (st : NodeState) : OutputsInv (placed st .fl) where
  stepInCheck := by intro h; exact absurd h (by cases st <;> decide)
  holdSafe := by intro m h; cases h
  nextA := by intro h; exact absurd h (by cases st <;> decide)
  activeA := by intro h; exact absurd h (by cases st <;> decide)
  nextB := by intro h; exact absurd rfl h
  activeB := by intro h; exact absurd rfl h

/-- CutoffAndConflictEndAsRuled, both clauses. -/
theorem witness_cutoff_conflict :
    (OutputsInv (placed .cutoff .fl) ∧ (placed .cutoff .fl).node.state = .cutoff ∧ Instr.busIdle ≠ .powerOnReset ∧
      ∃ t, exec .busIdle (placed .cutoff .fl) = .next t) ∧
    (OutputsInv (placed .conflict .fl) ∧ (placed .conflict .fl).node.state = .conflict ∧
      ∃ t, exec .busIdle (placed .conflict .fl) = .next t) :=
  ⟨⟨outputs_at_rest _, rfl, by decide, _, rfl⟩, ⟨outputs_at_rest _, rfl, _, rfl⟩⟩

/-- OnlyANeutralCommandEntersRun: a COMMAND with throttle 29 in SAFE, and the same in FAILSAFE. -/
theorem witness_enters_run (st : NodeState) (h : st = .safe ∨ st = .failsafe) :
    let s := withFrame (commandFrame 29#8) (placed st .fl)
    s.node.state ≠ .run ∧ (∃ t, exec .command s = .next t) ∧ (runs .command s).node.state = .run := by
  rcases h with rfl | rfl <;> exact ⟨by decide, ⟨_, rfl⟩, by decide +kernel⟩

/-- A node in CUTOFF whose channels are dark, MARKER on L2 pending its state pattern. -/
def darkCutoff : State :=
  { placed .cutoff .fl with
    lights := { Lights.reset with channels := Quad.ofLamp fun l =>
      { Channel.reset with
        function := some (defaultFront.get l), pending := if l = .l2 then some (.show .cutoff 64) else none } } }

/-- StepKeepsOutputsInv, both clauses. -/
theorem witness_outputs : (OutputsInv (driving .run .fl ⟨.fwd, 500⟩) ∧ ∃ t, step (driving .run .fl ⟨.fwd, 500⟩) = .next t) ∧
    CutoffDarkInv darkCutoff ∧ ∃ t, step darkCutoff = .next t := by
  refine ⟨⟨outputs_of_run, _, rfl⟩, ?_, _, rfl⟩
  intro _ l hl
  cases l
  · exact ⟨rfl, rfl, rfl, rfl⟩
  · exact ⟨rfl, rfl, rfl, rfl⟩
  · exact absurd (.inl rfl) hl
  · exact ⟨rfl, rfl, rfl, rfl⟩

theorem emptySlot_inv : SlotInv Slot.empty :=
  ⟨fun h => (by cases h), fun h hh => (by cases hh), fun h hh => (by cases hh), fun h hh => (by cases hh)⟩

/-- A node with a REPORT on the line and a successor behind it. -/
def sending : State :=
  let s := placed .run .fl
  let f : TxFrame := { sender := 1, payload := [0#8] }
  { s with bus := { s.bus with
    tx := { s.bus.tx with attempt := some { kind := .report, line := [] } }
    slots := { s.bus.slots with
      report := { held := some (Held.fresh f), next := some f, withdrawDue := false, discardDue := false } }
    counters := { BusCounters.zero with crcErrors := 255 } } }

/-- StepKeepsBoundsAndSlots, both clauses; a counter stands at its end. -/
theorem witness_bounds : BoundsInv sending ∧ TransmitInv sending ∧ ∃ t, step sending = .next t := by
  refine ⟨⟨by decide, by decide, by decide, by decide, by decide, by decide, by decide, by decide⟩, ⟨?_, ?_⟩, _, rfl⟩
  · intro k
    cases k
    · exact emptySlot_inv
    · refine ⟨fun _ => rfl, ?_, ?_, ?_⟩
      · intro h hh hb; cases hh; cases hb
      · intro h hh; cases hh; decide
      · intro h hh _; cases hh; rfl
    · exact emptySlot_inv
    · exact emptySlot_inv
  · intro k hk
    cases hk
    rfl

/-- A peer entry. -/
def peer (station current age : Nat) : PeerEntry :=
  { station, state := .run, level := .normal, current, demand := current, speed := 0, braking := false
    steerLost := false, age }

/-- A node with two peers, the first and the last station. -/
def withPeers : State :=
  let s := placed .run .fr
  { s with
    peers := { s.peers with table := [peer 1 80 10, peer 8 100 200] }
    bus := { s.bus with queue := [{ kind := .report, sender := 2, payload := [], own := true }] } }

/-- StepKeepsPeerTable. -/
theorem witness_peers : PeerInv withPeers ∧ ∃ t, step withPeers = .next t :=
  ⟨⟨by decide, by decide, by decide, by decide, by decide, fun h => (by cases h), fun h => (by cases h)⟩, _, rfl⟩

/-- A node with an allowance shared out in full. -/
def sharing : State :=
  let s := placed .run .fl
  { s with power := { s.power with
    running := true, allowance := 99, grants := { bridgeB := 10, required := 4, bridgeA := 85, aux := 0 } } }

/-- StepKeepsAllowance. -/
theorem witness_allowance : AllowanceInv sharing ∧ ∃ t, step sharing = .next t :=
  ⟨⟨by decide, by decide, fun h => (by cases h)⟩, _, rfl⟩

/-- A node at the ends of its ranges. -/
def fullDuty : State :=
  let s := driving .run .fl ⟨.rev, 1000⟩
  { s with
    intake := { s.intake with record := { s.intake.record with throttle := -1000, steer := 1000 } }
    drive := { s.drive with integrator := -1000 } }

/-- StepKeepsDutiesAndCommands. -/
theorem witness_duties : CommandInv fullDuty ∧ DutyInv fullDuty ∧ ∃ t, step fullDuty = .next t :=
  ⟨⟨⟨by decide, by decide⟩, ⟨by decide, by decide⟩, ⟨by decide, by decide⟩⟩,
    ⟨by decide, by decide, by decide, by decide, by decide, by decide, by decide, by decide, ⟨by decide, by decide⟩,
      ⟨by decide, by decide⟩⟩, _, rfl⟩

/-- FrameRoundTrip: an empty payload and one of 12 bytes, at the ends of a sender class. -/
theorem witness_round_trip :
    (([] : List Byte).length ≤ 12 ∧ senderAllowed .report 1 = true) ∧
    ((List.replicate 12 0#8).length ≤ 12 ∧ senderAllowed .report 8 = true) := by decide

/-- FrameChecksAndCrc: lengths 0 and 12 of the first clause, 13 and a mismatch of the second, two bytes of the third. -/
theorem witness_frame_checks :
    (([] : List Byte).length = (0#8).toNat ∧ (0#8).toNat ≤ 12) ∧
    ((List.replicate 12 0#8).length = (12#8).toNat ∧ (12#8).toNat ≤ 12) ∧
    12 < (13#8).toNat ∧ ([0#8] : List Byte).length ≠ (1#8).toNat + 1 ∧ (0#8 : Byte) ≠ 1#8 := by decide

/-- FrameOnTheLine: the first and the last bit of a byte. -/
theorem witness_bits : 0 < 8 ∧ 7 < 8 := by decide

/-- A committed frame waiting, with no successor. -/
def waiting : Slot :=
  { held := some { frame := { sender := 1, payload := [] }, committed := true, attempts := 7, backoff := some 60 }
    next := none, withdrawDue := false, discardDue := false }

/-- A frame not yet committed, with no successor. -/
def fresh : Slot := { Slot.empty with held := some (Held.fresh { sender := 1, payload := [] }) }

/-- PlacementFollowsTheSlotState: an empty slot, a frame not yet committed, a committed one, all in SlotInv's form. -/
theorem witness_placement :
    Slot.empty.held = none ∧ (fresh.held.any fun h => !h.committed) = true ∧
    (waiting.held.any Held.committed) = true ∧ SlotInv waiting ∧ SlotInv fresh ∧ SlotInv Slot.empty := by
  refine ⟨rfl, rfl, rfl, ⟨?_, ?_, ?_, ?_⟩, ⟨?_, ?_, ?_, ?_⟩, emptySlot_inv⟩
  · intro h; cases h
  · intro h hh _; cases hh; rfl
  · intro h hh; cases hh; decide
  · intro h hh hc; cases hh; cases hc
  · intro h; cases h
  · intro h hh hb; cases hh; cases hb
  · intro h hh; cases hh; decide
  · intro h hh _; cases hh; rfl

/-- The withdrawal clauses (R14): on the line the frame is marked and waits, off it it goes. -/
theorem witness_withdrawal : fresh.withdraw true = { fresh with withdrawDue := true } ∧
    fresh.withdraw false = Slot.empty ∧ waiting.withdraw false = waiting := by decide

/-- The attempts' statements: an attempt on the line over a held frame. -/
theorem witness_attempt : lineKind sending = some .report ∧ (sending.bus.slots.get .report).held.isSome = true ∧
    lineKind (placed .run .fl) = none := by decide

/-- EventsSettleIntoOneReport: no event; an event with no placement yet, at 5 ms and at 4 ms. -/
theorem witness_settle :
    let due := fun ms => (placed .run .fl).setNode { (placed .run .fl).node with eventDue := true, sinceReport := ms }
    (placed .run .fl).node.eventDue = false ∧ stationOf (due none) = some 1 ∧ (due none).node.eventDue = true ∧
    (due none).node.sinceReport = none ∧ (∀ ms, (due (some 5)).node.sinceReport = some ms → 5 ≤ ms) ∧
    (due (some 4)).node.sinceReport = some 4 ∧ 4 < 5 := by
  refine ⟨rfl, rfl, rfl, rfl, ?_, rfl, by decide⟩
  intro ms h
  cases h
  decide

theorem power_of_default : PowerRanges defaultFields where
  expectedNodes := by decide
  axleCount := by decide
  cellCount := by decide
  winchPosition := by decide
  packMonitorPosition := by decide
  packLimit := by decide
  reserve := by decide
  nodeCap := by decide
  floor := by decide
  rInt := by decide
  thresholds := by decide
  hysteresis := by decide
  imbalanceLimit := by decide

theorem motion_of_default : MotionRanges defaultFields where
  offsets := by decide
  halfTrack := by decide
  limits := by decide
  steerSlew := by decide
  steerStop := by decide
  kpS := by decide
  steerDeadband := by decide
  wheelDiameter := by decide
  countsPerRev := by decide
  vMax := by decide
  gains := by decide
  throttleRamp := by decide
  throttleDeadband := by decide
  dragBrake := by decide
  deadTime := by decide
  failsafeTimeout := by decide
  markerLevel := by decide
  maxLine := by decide
  stall := by decide
  speedMax := by decide
  lineMmPer100 := by decide
  assistRatio := by decide
  assistSlack := by decide

/-- ImageStaysInItsRanges: a node with the default image. -/
theorem witness_image : ImageInv (placed .run .fl) ∧ ∃ t, step (placed .run .fl) = .next t := by
  refine ⟨?_, _, rfl⟩
  intro i h
  cases h
  exact ⟨power_of_default, motion_of_default, ⟨by decide, by decide, by decide, by decide⟩⟩

/-- ReportReadsBackAsSent: SAFE with the last sequence number. -/
theorem witness_report : (placed .safe .fl).node.state ≠ .conflict ∧ 15 ≤ 15 := by decide

/-- SilentPeerJoinsTheReserve: an entry of 200 ms on an empty queue; a REPORT taken. -/
theorem witness_silent_peer : withPeers.pending = [] ∧ peer 8 100 200 ∈ withPeers.peers.table ∧ (peer 8 100 200).age = 200 ∧
    (∃ t, step withPeers = .next t) ∧ ∃ t, exec .report withPeers = .next t :=
  ⟨rfl, by decide, rfl, ⟨_, rfl⟩, ⟨_, rfl⟩⟩

/-- PeerFramesMakeTheTables: a link record of 60 ms on an empty queue; the command leaves an age of 60 and takes 61. -/
theorem witness_link_record :
    let aged := fun age => { placed .run .fl with
      peers := { State.reset.peers with link := some { lineSpeed := 300, assist := true, age } } }
    (aged 60).pending = [] ∧ (aged 60).peers.link = some { lineSpeed := 300, assist := true, age := 60 } ∧
    (after (step (aged 60)) (aged 60)).pending.contains .winchLinkExpiry = true ∧
    (runs .winchLinkExpiry (aged 60)).peers.link.isSome = true ∧ (runs .winchLinkExpiry (aged 61)).peers.link = none := by
  decide +kernel

/-- QueriesReadTheBlocks: figures at the end of their fields. -/
theorem witness_data_fields :
    (16777215 ≤ 16777215 ∧ 65535 ≤ 65535 ∧ 255 ≤ 255 ∧ 8 ≤ 8 ∧ 0 < 8 ∧ 7 < 8) ∧
    faultData { kind := .overtemp, output := .sensor .die, state := .conflict, uptime := 16777215, detail := -2 } =
      [10#8, 8#8, 7#8, 255#8, 255#8, 255#8, 255#8, 254#8] ∧
    logData { dir := .payOut, latency := some 70000, duration := 65535, peak := 70000, lineOut := 258, reason := .fault } =
      [23#8, 255#8, 254#8, 255#8, 255#8, 255#8, 255#8, 1#8, 2#8] ∧
    noticePayload 0x123456#24 true 8 = [7#8, 0x12#8, 0x34#8, 0x56#8, 136#8] := by decide +kernel

/-- ControlQueriesActByState: a RESTART for a node whose WINCH slot holds the frame on the line, and for one with nothing
there; both enter LISTEN with an OK. -/
theorem witness_restart :
    let s := withFrame { kind := .query, sender := 12, payload := [1#8, 7#8, 0#8], own := false } (placed .run .fl)
    (s.bus.slots.winch.held = none ∧ lineKind s ≠ some .winch ∧ s.node.position = some .fl) ∧
    (runs .restart s).node.state = .listen ∧
    (runs .restart s).bus.slots.answer.held.map (fun h => h.frame.payload) = some [12#8, 7#8, 0#8] := by decide +kernel

/-- PeerFiguresFollowTheTable: an axle-mate and a speed of a corner station. -/
theorem witness_peer_figures : withPeers.node.position = some .fr ∧ axleMate .fr = some 1 ∧
    peer 1 80 10 ∈ withPeers.peers.table ∧ speedMedian withPeers.peers = some 0 := by decide

/-- GrantsFollowTheOrder, LevelsFallToCutoff, CutoffEntryHoldsTheOutputs: a running supervisor in RUN. -/
theorem witness_running : sharing.power.running = true ∧ sharing.node.state ≠ .strap ∧ sharing.node.state ≠ .cutoff := by
  decide

/-- AnglesInterpolateTheTable: the first and the last step, and 4096. -/
theorem witness_angles : (0 < 15 ∧ 0 < 30) ∧ (14 < 15 ∧ 29 < 30) ∧ 15 ≤ 15 ∧ 4096 ≤ 4096 ∧
    ((0 ≤ 0 ∧ 0 < 215) ∧ 3688 ≤ 4095 ∧ 4095 < 4096) := by decide

/-- WheelAnglesStayInTheirLimits: the default image at full steer; a node with a target at its limit. -/
theorem witness_wheel_angles : PowerRanges defaultFields ∧ MotionRanges defaultFields ∧ inPerMille 1000 ∧
    inPerMille (-1000) :=
  ⟨power_of_default, motion_of_default, ⟨by decide, by decide⟩, ⟨by decide, by decide⟩⟩

def steered : State :=
  (driving .run .fl ⟨.fwd, 500⟩).setSteer { Steer.reset with
    presented := 350, actuator := -350, geometry := { Geometry.straightIn .front with target := 350, straight := false } }

theorem witness_steer_targets : OutputsInv steered ∧ SteerInv steered ∧ ∃ t, step steered = .next t := by
  refine ⟨⟨by decide, by (intro m h; cases h), fun _ => .inl (.inl rfl), fun _ => .inl (.inl rfl), ?_, ?_⟩,
    ⟨by decide, by decide, by decide, by decide, by decide, by decide⟩, _, rfl⟩
  · intro h; exact absurd rfl h
  · intro h; exact absurd rfl h

/-- WheelFiguresFollowTheImage: a corner and a winch node with an image; the roles of its clauses; no figures. -/
theorem witness_wheel_figures :
    FiguresInv (placed .run .fl) ∧ (∃ t, step (placed .run .fl) = .next t) ∧ FiguresInv (placed .run .ca) ∧
    (∃ t, step (placed .run .ca) = .next t) ∧ roleOf (applyImage defaultImage (placed .listen .fl)) = .corner ∧
    roleOf (applyImage defaultImage (placed .listen .ca)) ≠ .corner ∧ State.reset.drive.figures = none :=
  ⟨⟨by decide, by decide⟩, ⟨_, rfl⟩, ⟨by decide, by decide⟩, ⟨_, rfl⟩, by decide +kernel, by decide +kernel, rfl⟩

/-- DriveTickFollowsItsTable: a corner whose BRAKING changes at the tick, the event selected in a state that reports. -/
theorem witness_drive_tick :
    let s := (driving .run .fl ⟨.brake, 0⟩).setDrive
      { (placed .run .fl).drive with latest := some 1000, lastEdge := some { dir := .forward, age := 0 } }
    roleOf s = .corner ∧ eventSelected s .brakingChange = true ∧ reportsNow s = true ∧
    (runs (.driveTick 0) s).drive.braking ≠ s.drive.braking := by decide +kernel

/-- A winch node hauling at half lever. -/
def hauling : State :=
  let s := driving .run .ca ⟨.fwd, 500⟩
  { s with
    intake := { s.intake with record := { s.intake.record with lever := 500 } }
    winch := { s.winch with drum := .haulIn } }

/-- DrumLoopFollowsTheLever: the tick keeps the drum hauling. -/
theorem witness_drum_loop : roleOf hauling = .winch ∧ hauling.node.state = .run ∧ hauling.winch.drum = .haulIn ∧
    100 < (presented hauling).lever ∧ (runs (.controlTick 0 0) hauling).winch.drum = .haulIn := by decide +kernel

/-- A node in CHECK at a step. -/
def checking (st : CheckStep) : State :=
  let s := placed .check .fl
  { s with
    pins := { s.pins with vpack := 14200 }
    monitor := { s.monitor with position := some st, record := CheckRecord.untested true } }

/-- The CHECK statements (Advanced): the step after the pull-up test of A is its load pulse; past a passing supply test
comes the pull-down test of A; a sweep that fails ends the sequence in SAFE. -/
theorem witness_advanced :
    (runs (.pullTestEnd 14000 14200) (checking .pullUpA)).monitor.position = some .loadA ∧
    (runs (.supplyTestRetry 14200) (checking .supply)).monitor.position = some .pullDownA ∧
    (runs .sweepPhaseTimeout (checking .sweepLeft)).monitor.position = none ∧
    (runs .sweepPhaseTimeout (checking .sweepLeft)).node.state = .safe := by decide +kernel

/-- TemperaturesClassTheNode: 140 degrees enter SHUTDOWN, and make the load pulse of A wait; below 130 it is released; a
reading of no new class. -/
theorem witness_thermal :
    let hot := runs (.temperatureReading 20 140) (checking .loadA)
    (entersShutdown (checking .loadA) hot ∧ hot.monitor.waiting = true ∧ hot.bridgeA.active = ⟨.brake, 0⟩) ∧
    releasesStep hot (runs (.temperatureReading 20 129) hot) ∧
    thermalClass (runs (.temperatureReading 20 30) (placed .run .fl)) = thermalClass (placed .run .fl) ∧
    ¬ releasesStep (placed .run .fl) (runs (.temperatureReading 20 30) (placed .run .fl)) ∧
    tenthRecord .die 30 (placed .run .fl) = [] ∧ tenthRecord .ts1 20 (placed .run .fl) = [] := by
  refine ⟨⟨⟨by decide +kernel, by decide +kernel⟩, by decide +kernel, by decide +kernel⟩,
    ⟨by decide +kernel, by decide +kernel, by decide +kernel⟩, by decide +kernel, ?_, by decide +kernel, by decide +kernel⟩
  intro h
  exact absurd h.1 (by decide +kernel)

/-- TemperaturesClassTheNode: a bridge A withdrawn while its load pulse waits is not driven when SHUTDOWN ends (R186). -/
theorem witness_waited_in_vain :
    let hot := runs (.temperatureReading 20 140) (checking .loadA)
    let gone := { hot with monitor := { hot.monitor with
      withdrawn := { hot.monitor.withdrawn with bridgeA := true }, holdA := some .off } }
    let cool := runs (.temperatureReading 20 129) gone
    waitsInVain gone = true ∧ cool.monitor.position = some .pullDownB ∧ cool.bridgeA.active = ⟨.off, 0⟩ ∧
    cool.monitor.record.bridgeA = .notTested := by decide +kernel

/-- WantedDisplaysFollowTheOverrides: a front corner's four functions; a node without a function. -/
theorem witness_functions :
    let s := (placed .run .fl).setLights darkCutoff.lights
    functionOf s .l0 = some .head ∧ functionOf s .l1 = some .indicator ∧ functionOf s .l2 = some .marker ∧
    functionOf s .l3 = some .aux ∧ functionOf State.reset .l0 = none := by decide

end Sys2Proof.Tests
end

section
/-! SUPPORT. The slots of the transmit set: each operation on a slot leaves it in a state of Table 1-5 (R12 to R17, R22). -/

namespace Sys2Proof.TrailBus

open Sys2Proof Sys2Proof.Machine Sys2Proof.Safety

/-! ## The held frame -/

/-- What Table 1-5 asks of a held frame: a backoff only once committed, 0 to 7 attempts, none until committed. -/
structure HeldInv (h : Held) : Prop where
  backoffCommitted : h.backoff.isSome → h.committed = true
  attemptsRange : h.attempts ≤ 7
  freshUncommitted : h.committed = false → h.attempts = 0

theorem heldInv_fresh (f : TxFrame) : HeldInv (Held.fresh f) := ⟨nofun, Nat.zero_le 7, fun _ => rfl⟩

theorem heldInv_of_slotInv {sl : Slot} {h : Held} (inv : SlotInv sl) (hh : sl.held = some h) : HeldInv h :=
  ⟨inv.backoffCommitted h hh, inv.attemptsRange h hh, inv.freshUncommitted h hh⟩

theorem slotInv_of_held {sl : Slot} {h : Held} (hh : sl.held = some h) (inv : HeldInv h) : SlotInv sl where
  nextBehindHeld _ := by simp [hh]
  backoffCommitted x hx := by cases hh.symm.trans hx; exact inv.backoffCommitted
  attemptsRange x hx := by cases hh.symm.trans hx; exact inv.attemptsRange
  freshUncommitted x hx := by cases hh.symm.trans hx; exact inv.freshUncommitted

theorem slotInv_of_empty {sl : Slot} (hh : sl.held = none) (hn : sl.next = none) : SlotInv sl where
  nextBehindHeld h := by simp [hn] at h
  backoffCommitted x hx := by simp [hh] at hx
  attemptsRange x hx := by simp [hh] at hx
  freshUncommitted x hx := by simp [hh] at hx

theorem next_of_slotInv {sl : Slot} (inv : SlotInv sl) (hh : sl.held = none) : sl.next = none := by
  simpa [hh] using inv.nextBehindHeld

/-- A change of the held frame alone: it keeps a slot's form when it keeps the frame's. -/
theorem slotInv_map_held {sl : Slot} {g : Held → Held} (hg : ∀ h, HeldInv h → HeldInv (g h)) (inv : SlotInv sl) :
    SlotInv { sl with held := sl.held.map g } := by
  cases hh : sl.held with
  | none => exact slotInv_of_empty rfl (next_of_slotInv (sl := sl) inv hh)
  | some h => exact slotInv_of_held rfl (hg h (heldInv_of_slotInv inv hh))

/-! ## The operations on a slot -/

theorem slotInv_empty : SlotInv Slot.empty := slotInv_of_empty rfl rfl

theorem slotInv_leave (sl : Slot) : SlotInv sl.leave := by
  cases hn : sl.next with
  | none => exact slotInv_of_empty (by simp [Slot.leave, hn]) rfl
  | some f => exact slotInv_of_held (h := Held.fresh f) (by simp [Slot.leave, hn]) (heldInv_fresh f)

theorem slotInv_place (onLine : Bool) (f : TxFrame) {sl : Slot} (inv : SlotInv sl) : SlotInv (sl.place onLine f).1 := by
  cases hh : sl.held with
  | none =>
    rw [Slot.place_empty onLine f sl hh]
    exact slotInv_of_held rfl (heldInv_fresh f)
  | some h =>
    have hi := heldInv_of_slotInv inv hh
    by_cases hc : (h.committed || onLine) = true
    · rw [Slot.place_behind onLine f sl h hh hc]
      exact slotInv_of_held hh hi
    · simp only [Bool.or_eq_true, not_or, Bool.not_eq_true] at hc
      rw [hc.2, Slot.place_pending f sl h hh hc.1]
      exact slotInv_of_held rfl ⟨hi.backoffCommitted, hi.attemptsRange, hi.freshUncommitted⟩

theorem slotInv_withdraw (onLine : Bool) {sl : Slot} (inv : SlotInv sl) : SlotInv (sl.withdraw onLine) := by
  cases hh : sl.held with
  | none => simpa [Slot.withdraw, hh] using inv
  | some h =>
    have hi := heldInv_of_slotInv inv hh
    simp only [Slot.withdraw, hh]
    split
    · exact slotInv_of_held rfl hi
    · split
      · exact slotInv_of_held rfl hi
      · exact slotInv_empty

theorem withdraw_held_of_onLine {sl : Slot} (h : sl.held.isSome) : (sl.withdraw true).held.isSome := by
  obtain ⟨x, hx⟩ := Option.isSome_iff_exists.1 h
  simp only [Slot.withdraw, hx]
  split <;> rfl

theorem slotInv_restart (onLine : Bool) {sl : Slot} (inv : SlotInv sl) : SlotInv (sl.restart onLine) := by
  cases onLine with
  | false => exact slotInv_empty
  | true =>
    cases hh : sl.held with
    | none => exact slotInv_of_empty hh rfl
    | some h => exact slotInv_of_held hh (heldInv_of_slotInv inv hh)

theorem slotInv_lose {sl : Slot} (inv : SlotInv sl) : SlotInv sl.lose.1 := by
  cases hh : sl.held with
  | none => simpa [Slot.lose, hh] using inv
  | some h =>
    simp only [Slot.lose, hh]
    split
    · dsimp only
      split
      · exact slotInv_leave sl
      · exact inv
    · split
      · exact slotInv_empty
      · split
        · exact slotInv_leave sl
        · split
          · exact inv
          · exact slotInv_of_held rfl (heldInv_fresh _)

theorem passHeader_held (sl : Slot) : sl.passHeader.held = sl.held := by
  unfold Slot.passHeader
  split <;> rfl

/-- A collision: the frame is gone, or stays committed with at most seven attempts behind it. -/
theorem slotInv_collide (serial : BitVec 24) {sl : Slot} (inv : SlotInv sl) : SlotInv (sl.collide serial).1 := by
  cases hh : sl.held with
  | none => simpa [Slot.collide, passHeader_held, hh] using inv
  | some h =>
    simp only [Slot.collide, passHeader_held, hh]
    split
    · exact slotInv_leave _
    · split
      · exact slotInv_leave _
      · exact slotInv_of_held rfl ⟨fun _ => rfl, by dsimp only; omega, nofun⟩

theorem slotInv_expire {sl : Slot} (inv : SlotInv sl) : SlotInv sl.expire :=
  slotInv_map_held (fun _ hi => ⟨nofun, hi.attemptsRange, hi.freshUncommitted⟩) inv

theorem slotInv_age {sl : Slot} (inv : SlotInv sl) : SlotInv (ageSlot sl) :=
  slotInv_map_held (fun _ hi => ⟨by simpa using hi.backoffCommitted, hi.attemptsRange, hi.freshUncommitted⟩) inv

end Sys2Proof.TrailBus
end

section
/-! SUPPORT. One relation for the three invariants of O9 and O10. Each shared operation and each node-state entry is shown to
keep it once, by a lemma that takes what comes before the operation; the lemmas nest as the operations do. -/

namespace Sys2Proof.TrailBus

open Sys2Proof Sys2Proof.Machine Sys2Proof.Safety

set_option Elab.async false

variable {s t : State}

/-! ## The relation -/

/-- From `s` to `t` the invariants of O9 and O10 are kept. -/
structure Keeps (s t : State) : Prop where
  bounds : BoundsInv s → BoundsInv t
  transmit : TransmitInv s → TransmitInv t
  peers : PeerInv s → PeerInv t

theorem Keeps.refl (s : State) : Keeps s s := ⟨id, id, id⟩

theorem Keeps.trans {u : State} (h : Keeps s t) (k : Keeps t u) : Keeps s u :=
  ⟨k.bounds ∘ h.bounds, k.transmit ∘ h.transmit, k.peers ∘ h.peers⟩

theorem Keeps.ite {u : State} {c : Prop} [Decidable c] (h : Keeps s t) (k : Keeps s u) :
    Keeps s (if c then t else u) := by
  split
  · exact h
  · exact k

/-- A peer table that holds no new station, with the queue, the position and the state passed through. -/
theorem peerInv_of_stations (h : PeerInv s)
    (stations : (t.peers.table.map PeerEntry.station).Sublist (s.peers.table.map PeerEntry.station))
    (queue : t.bus.queue = s.bus.queue := by rfl) (position : t.node.position = s.node.position := by rfl)
    (state : t.node.state = .strap → s.node.state = .strap := by exact id) : PeerInv t := by
  have own : stationOf t = stationOf s := by rw [stationOf, position]; rfl
  have held (e : PeerEntry) (he : e ∈ t.peers.table) : ∃ x ∈ s.peers.table, x.station = e.station :=
    List.mem_map.1 (stations.subset (List.mem_map_of_mem he))
  have empty (hs : s.peers.table = []) : t.peers.table = [] := by simpa [hs] using stations
  refine ⟨queue ▸ h.queueClass, by simpa only [own, queue] using h.queueOwn, h.ascending.sublist stations, fun e he => ?_,
    fun e he => ?_, fun hn => empty (h.noStation (own ▸ hn)), fun hs => ?_⟩
  · obtain ⟨x, hx, same⟩ := held e he
    exact same ▸ h.range x hx
  · obtain ⟨x, hx, same⟩ := held e he
    exact own ▸ same ▸ h.notOwn x hx
  · obtain ⟨noFrame, noPeer⟩ := h.strapEmpty (state hs)
    exact ⟨queue.trans noFrame, empty noPeer⟩

/-- What the invariant of the queue and the peer table reads, passed through. -/
theorem peerInv_of_same (h : PeerInv s) (queue : t.bus.queue = s.bus.queue := by rfl)
    (table : t.peers.table = s.peers.table := by rfl) (position : t.node.position = s.node.position := by rfl)
    (state : t.node.state = .strap → s.node.state = .strap := by exact id) : PeerInv t :=
  peerInv_of_stations h (by rw [table]) queue position state

/-- With the queue and the table empty nothing is left to hold. -/
theorem peerInv_of_empty (queue : s.bus.queue = []) (table : s.peers.table = []) : PeerInv s where
  queueClass f hf := by simp [queue] at hf
  queueOwn f hf := by simp [queue] at hf
  ascending := by simp [table]
  range e he := by simp [table] at he
  notOwn e he := by simp [table] at he
  noStation _ := table
  strapEmpty _ := ⟨queue, table⟩

/-- An operation that writes nothing the invariants read: each of those fields it passes through. -/
theorem Keeps.aside {u : State} (h : Keeps s t) (bus : u.bus = t.bus := by rfl)
    (table : u.peers.table = t.peers.table := by rfl) (position : u.node.position = t.node.position := by rfl)
    (state : u.node.state = .strap → t.node.state = .strap := by exact id)
    (assignIgnored : u.node.assignIgnored = t.node.assignIgnored := by rfl)
    (uptime : u.node.uptime = t.node.uptime := by rfl) (sequence : u.node.sequence = t.node.sequence := by rfl)
    (faults : u.monitor.faults = t.monitor.faults := by rfl) (log : u.winch.log = t.winch.log := by rfl) : Keeps s u :=
  h.trans
    { bounds := fun b => ⟨bus ▸ b.counters, bus ▸ b.queue, bus ▸ b.lineFaultRun, assignIgnored ▸ b.assignIgnored,
        uptime ▸ b.uptime, sequence ▸ b.sequence, faults ▸ b.faults, log ▸ b.log⟩
      transmit := fun x => ⟨bus ▸ x.slots, by simpa only [lineKind, bus] using x.onLine⟩
      peers := fun p => peerInv_of_same p (by rw [bus]) table position state }

/-! ## Updates that write nothing the invariants read -/

theorem keeps_setPins {x : Pins} (h : Keeps s t) : Keeps s (t.setPins x) := h.aside
theorem keeps_setIntake {x : Intake} (h : Keeps s t) : Keeps s (t.setIntake x) := h.aside
theorem keeps_setPower {x : Power} (h : Keeps s t) : Keeps s (t.setPower x) := h.aside
theorem keeps_setBridgeA {x : Bridge} (h : Keeps s t) : Keeps s (t.setBridgeA x) := h.aside
theorem keeps_setBridgeB {x : Bridge} (h : Keeps s t) : Keeps s (t.setBridgeB x) := h.aside
theorem keeps_setSteer {x : Steer} (h : Keeps s t) : Keeps s (t.setSteer x) := h.aside
theorem keeps_setDrive {x : Drive} (h : Keeps s t) : Keeps s (t.setDrive x) := h.aside
theorem keeps_setLights {x : Lights} (h : Keeps s t) : Keeps s (t.setLights x) := h.aside
theorem keeps_setPending {x : List Instr} (h : Keeps s t) : Keeps s (t.setPending x) := h.aside

theorem keeps_setNode {x : Node} (h : Keeps s t) (position : x.position = t.node.position := by rfl)
    (state : x.state = .strap → t.node.state = .strap := by exact id)
    (assignIgnored : x.assignIgnored = t.node.assignIgnored := by rfl)
    (uptime : x.uptime = t.node.uptime := by rfl) (sequence : x.sequence = t.node.sequence := by rfl) :
    Keeps s (t.setNode x) :=
  h.aside (position := position) (state := state) (assignIgnored := assignIgnored) (uptime := uptime) (sequence := sequence)

theorem keeps_setPeers {x : Peers} (h : Keeps s t) (table : x.table = t.peers.table := by rfl) : Keeps s (t.setPeers x) :=
  h.aside (table := table)

theorem keeps_setMonitor {x : Monitor} (h : Keeps s t) (faults : x.faults = t.monitor.faults := by rfl) :
    Keeps s (t.setMonitor x) := h.aside (faults := faults)

theorem keeps_setWinch {x : Winch} (h : Keeps s t) (log : x.log = t.winch.log := by rfl) : Keeps s (t.setWinch x) :=
  h.aside (log := log)

/-! ## The bus port's operations -/

/-- A change of the counters that bounds each. -/
theorem keeps_countBus {f : BusCounters → BusCounters}
    (hf : ∀ c, (∀ n ∈ counterList c, n ≤ 255) → ∀ n ∈ counterList (f c), n ≤ 255) (h : Keeps s t) :
    Keeps s (countBus f t) :=
  h.trans
    { bounds := fun b => { b with counters := hf _ b.counters }
      transmit := fun x => { x with }
      peers := fun p => peerInv_of_same p }

theorem keeps_countFraming (h : Keeps s t) : Keeps s (countFraming t) :=
  keeps_countBus (fun c hc => by simp_all [counterList, bumpTo_le]) h

theorem keeps_countFormat (h : Keeps s t) : Keeps s (countFormat t) :=
  keeps_countBus (fun c hc => by simp_all [counterList, bumpTo_le]) h

theorem keeps_countCrc (h : Keeps s t) : Keeps s (countCrc t) :=
  keeps_countBus (fun c hc => by simp_all [counterList, bumpTo_le]) h

theorem keeps_countOverrun (h : Keeps s t) : Keeps s (countOverrun t) :=
  keeps_countBus (fun c hc => by simp_all [counterList, bumpTo_le]) h

theorem keeps_countCollision (h : Keeps s t) : Keeps s (countCollision t) :=
  keeps_countBus (fun c hc => by simp_all [counterList, bumpTo_le]) h

theorem keeps_countLineFault (h : Keeps s t) : Keeps s (countLineFault t) :=
  keeps_countBus (fun c hc => by simp_all [counterList, bumpTo_le]) h

theorem keeps_countTxDrop (h : Keeps s t) : Keeps s (countTxDrop t) :=
  keeps_countBus (fun c hc => by simp_all [counterList, bumpTo_le]) h

theorem keeps_countAnswerDrop (h : Keeps s t) : Keeps s (countAnswerDrop t) :=
  keeps_countBus (fun c hc => by simp_all [counterList, bumpTo_le]) h

theorem keeps_countCfgIgnored (h : Keeps s t) : Keeps s (countCfgIgnored t) :=
  keeps_countBus (fun c hc => by simp_all [counterList, bumpTo_le]) h

/-- The receiver is no part of the invariants. -/
theorem keeps_setRx {x : Receiver} (h : Keeps s t) : Keeps s (setRx x t) :=
  h.trans
    { bounds := fun b => { b with }
      transmit := fun x => { x with }
      peers := fun p => peerInv_of_same p }

/-- Of the transmitter only the attempt on the line is read: here it is the one before, or one of a held frame. -/
theorem keeps_setTx {x : Transmitter} (h : Keeps s t)
    (hx : ∀ a, x.attempt = some a → t.bus.tx.attempt = some a ∨ (t.bus.slots.get a.kind).held.isSome) :
    Keeps s (setTx x t) :=
  h.trans
    { bounds := fun b => { b with }
      transmit := fun inv => ⟨inv.slots, fun k hk => by
        obtain ⟨a, ha, rfl⟩ := Option.map_eq_some_iff.1 hk
        exact (hx a ha).elim (fun same => inv.onLine a.kind (by simp [lineKind, same])) id⟩
      peers := fun p => peerInv_of_same p }

theorem keeps_clearAttempt (h : Keeps s t) : Keeps s (clearAttempt t) := keeps_setTx h nofun

/-- A slot replaced by one in a state of Table 1-5 that still holds the frame on the line. -/
theorem keeps_setSlot {k : TxKind} {sl : Slot} (h : Keeps s t) (inv : SlotInv (t.bus.slots.get k) → SlotInv sl)
    (held : lineKind t = some k → (t.bus.slots.get k).held.isSome → sl.held.isSome) : Keeps s (setSlot k sl t) := by
  refine h.trans ⟨fun b => { b with }, fun x => ⟨fun j => ?_, fun j hj => ?_⟩, fun p => peerInv_of_same p⟩
  · by_cases e : j = k
    · subst e
      simpa [setSlot] using inv (x.slots j)
    · simpa [setSlot, Slots.get_put_other _ _ _ _ e] using x.slots j
  · by_cases e : j = k
    · subst e
      simpa [setSlot] using held hj (x.onLine j hj)
    · simpa [setSlot, Slots.get_put_other _ _ _ _ e] using x.onLine j hj

theorem keeps_placeFrame {k : TxKind} {payload : List Byte} (h : Keeps s t) : Keeps s (placeFrame k payload t) := by
  unfold placeFrame
  cases stationOf t with
  | none => exact h
  | some n =>
    have placed : Keeps s (setSlot k ((t.bus.slots.get k).place (lineKind t = some k) { sender := n, payload }).1 t) :=
      keeps_setSlot h (slotInv_place _ _) fun _ _ => Slot.place_held _ _ _
    exact .ite (keeps_countAnswerDrop placed) placed

theorem keeps_withdrawFrame {k : TxKind} (h : Keeps s t) : Keeps s (withdrawFrame k t) :=
  keeps_setSlot h (slotInv_withdraw _) fun hk hh => by
    simpa only [hk, decide_true] using withdraw_held_of_onLine hh

theorem keeps_placeAnswer {asker code : Nat} {result : AnswerResult} {data : List Byte} (h : Keeps s t) :
    Keeps s (placeAnswer asker code result data t) := keeps_placeFrame h

/-- A slot may be left in any of its states once its attempt is off the line. -/
theorem keeps_setSlot_clearAttempt {k : TxKind} {sl : Slot} (h : Keeps s t)
    (inv : SlotInv (t.bus.slots.get k) → SlotInv sl) : Keeps s (setSlot k sl (clearAttempt t)) :=
  keeps_setSlot (keeps_clearAttempt h) inv nofun

theorem finishAttempt_eq (s : State) : finishAttempt s = match lineKind s with
    | none => s
    | some k => setSlot k (s.bus.slots.get k).passHeader.leave (clearAttempt s) := by
  unfold finishAttempt lineKind
  cases s.bus.tx.attempt <;> rfl

theorem keeps_finishAttempt (h : Keeps s t) : Keeps s (finishAttempt t) := by
  rw [finishAttempt_eq]
  cases lineKind t with
  | none => exact h
  | some k => exact keeps_setSlot_clearAttempt h fun _ => slotInv_leave _

theorem requestBreak_eq (s : State) : requestBreak s = if s.bus.tx.breakLeft.isSome then s
    else setRx { (finishAttempt s).bus.rx with ownBreak := true }
      (setTx { (finishAttempt s).bus.tx with breakLeft := some 30 } (finishAttempt s)) := rfl

theorem keeps_requestBreak (h : Keeps s t) : Keeps s (requestBreak t) := by
  rw [requestBreak_eq]
  exact .ite h (keeps_setRx (keeps_setTx (keeps_finishAttempt h) fun _ ha => .inl ha))

theorem keeps_popQueue (h : Keeps s t) : Keeps s (popQueue t) := by
  refine h.trans ⟨fun b => { b with queue := (List.tail_sublist _).length_le.trans b.queue }, fun x => { x with },
    fun p => ?_⟩
  exact { p with
    queueClass := fun f hf => p.queueClass f (List.mem_of_mem_tail hf)
    queueOwn := fun f hf => p.queueOwn f (List.mem_of_mem_tail hf)
    strapEmpty := fun hs => ⟨by simp [popQueue, (p.strapEmpty hs).1], (p.strapEmpty hs).2⟩ }

/-! ## Reports, records and settling -/

theorem keeps_placeReport (h : Keeps s t) : Keeps s (placeReport t) := by
  have wrapped : (placeReport t).node.sequence ≤ 15 := Nat.le_of_lt_succ (Nat.mod_lt _ (by decide))
  exact (keeps_placeFrame h).trans (t := placeFrame .report (reportPayload t) t)
    ⟨fun b => { b with sequence := wrapped }, fun x => { x with }, fun p => peerInv_of_same p⟩

theorem keeps_raiseEvent {e : ReportEvent} (h : Keeps s t) : Keeps s (raiseEvent e t) := by
  rcases raiseEvent_cases e t with he | he <;> rw [he]
  · exact h
  · exact h.aside

theorem keeps_settle (h : Keeps s t) : Keeps s (settle t) := by
  unfold settle
  refine .ite ?_ h
  cases t.node.sinceReport with
  | none => exact keeps_placeReport (keeps_setNode h)
  | some ms => exact .ite (keeps_placeReport (keeps_setNode h)) (keeps_setNode (keeps_setNode h))

theorem keeps_addFaultIn {st : NodeState} {kind : FaultKind} {output : FaultOutput} {detail : Int} (h : Keeps s t) :
    Keeps s (addFaultIn st kind output detail t) :=
  keeps_raiseEvent (h.trans ⟨fun b => { b with faults := List.length_take_le 8 _ }, fun x => { x with },
    fun p => peerInv_of_same p⟩)

theorem keeps_addFault {kind : FaultKind} {output : FaultOutput} {detail : Int} (h : Keeps s t) :
    Keeps s (addFault kind output detail t) := keeps_addFaultIn h

theorem keeps_placeNotice (h : Keeps s t) : Keeps s (placeNotice t) := by
  unfold placeNotice
  split
  · exact keeps_setNode (keeps_placeFrame h)
  · exact h

/-! ## The bridges and the drum -/

theorem keeps_holdBridgeA (h : Keeps s t) : Keeps s (holdBridgeA t) := h.aside
theorem keeps_brakeBridgeA (h : Keeps s t) : Keeps s (brakeBridgeA t) := h.aside
theorem keeps_forceBridgeA {m : BridgeMode} {d : Nat} (h : Keeps s t) : Keeps s (forceBridgeA m d t) := h.aside
theorem keeps_forceBridgeB {m : BridgeMode} {d : Nat} (h : Keeps s t) : Keeps s (forceBridgeB m d t) := h.aside
theorem keeps_writeBridgeA {m : BridgeMode} {d : Nat} (h : Keeps s t) : Keeps s (writeBridgeA m d t) := h.aside
theorem keeps_writeBridgeB {m : BridgeMode} {d : Nat} (h : Keeps s t) : Keeps s (writeBridgeB m d t) := h.aside
theorem keeps_offBridgeB (h : Keeps s t) : Keeps s (offBridgeB t) := h.aside
theorem keeps_zeroDrive (h : Keeps s t) : Keeps s (zeroDrive t) := h.aside
theorem keeps_restBridges (h : Keeps s t) : Keeps s (restBridges t) := h.aside
theorem keeps_clearMarks (h : Keeps s t) : Keeps s (clearMarks t) := h.aside

theorem keeps_shutBridgeA (h : Keeps s t) : Keeps s (shutBridgeA t) := by
  unfold shutBridgeA
  exact .ite (keeps_zeroDrive h) (keeps_brakeBridgeA h)

theorem keeps_placeWinch (h : Keeps s t) : Keeps s (placeWinch t) := keeps_setWinch (keeps_placeFrame h)

theorem keeps_setDrum {d : DrumState} (h : Keeps s t) : Keeps s (setDrum d t) := by
  unfold setDrum
  exact .ite h (keeps_raiseEvent (.ite (keeps_placeWinch (keeps_setWinch h)) (keeps_setWinch h)))

theorem keeps_closeOperation {reason : EndReason} (h : Keeps s t) : Keeps s (closeOperation reason t) := by
  rcases closeOperation_cases reason t with ⟨_, hc⟩ | ⟨r, _, hc⟩ <;> rw [hc]
  · exact h
  · refine h.trans ⟨fun b => { b with log := ?_ }, fun x => { x with }, fun p => peerInv_of_same p⟩
    dsimp only [State.setWinch]
    split
    · exact List.length_take_le 4 _
    · exact b.log

theorem keeps_endOperation {reason : EndReason} {d : DrumState} (h : Keeps s t) : Keeps s (endOperation reason d t) :=
  keeps_setDrum (keeps_brakeBridgeA (keeps_closeOperation h))

theorem keeps_releaseDrum {reason : EndReason} (h : Keeps s t) : Keeps s (releaseDrum reason t) := by
  have released := keeps_offBridgeB (keeps_closeOperation (reason := reason) h)
  unfold releaseDrum
  exact .ite (.ite released (keeps_setDrum released)) h

/-! ## The entries to the node states -/

theorem keeps_clearIntake (h : Keeps s t) : Keeps s (clearIntake t) := h.aside
theorem keeps_clearSteer (h : Keeps s t) : Keeps s (clearSteer t) := h.aside
theorem keeps_abandonCheck (h : Keeps s t) : Keeps s (abandonCheck t) := h.aside
theorem keeps_endTripWaitB (h : Keeps s t) : Keeps s (endTripWaitB t) := h.aside
theorem keeps_clearLoss (h : Keeps s t) : Keeps s (clearLoss t) := h.aside
theorem keeps_darkenForCutoff (h : Keeps s t) : Keeps s (darkenForCutoff t) := h.aside

theorem keeps_lowerAllowance (h : Keeps s t) : Keeps s (lowerAllowance t) := by
  unfold lowerAllowance
  exact .ite (keeps_setPower h) h

theorem keeps_goSafe {reason : EndReason} (h : Keeps s t) : Keeps s (goSafe reason t) :=
  keeps_holdBridgeA (keeps_releaseDrum (keeps_endTripWaitB (keeps_clearSteer h)))

/-- No entry leads back to STRAP. -/
theorem keeps_moveTo {st : NodeState} (h : Keeps s t) (hst : st ≠ .strap := by decide) : Keeps s (moveTo st t) := by
  have left (e : st = .strap) : t.node.state = .strap := absurd e hst
  unfold moveTo
  exact .ite (h.aside (state := left)) (h.aside (state := left))

theorem keeps_setFunctions {l : ImageLights} (h : Keeps s t) : Keeps s (setFunctions l t) := by
  unfold setFunctions
  cases t.node.position with
  | none => exact h
  | some p => exact keeps_setLights h

theorem keeps_startBeat (h : Keeps s t) : Keeps s (startBeat t) := by
  unfold startBeat
  exact .ite h (keeps_setLights h)

theorem keeps_startReportTimer (h : Keeps s t) : Keeps s (startReportTimer t) := by
  unfold startReportTimer
  exact .ite (keeps_setNode h) h

theorem keeps_enterListen (h : Keeps s t) : Keeps s (enterListen t) := by
  have safe := keeps_clearIntake (keeps_goSafe (reason := .fault) (keeps_abandonCheck (keeps_moveTo (st := .listen) h)))
  exact keeps_startBeat (keeps_setFunctions (keeps_setPower (keeps_setNode safe)))

theorem keeps_enterRun (h : Keeps s t) : Keeps s (enterRun t) :=
  keeps_setIntake (keeps_zeroDrive (keeps_clearLoss (keeps_moveTo h)))

theorem keeps_enterFailsafe (h : Keeps s t) : Keeps s (enterFailsafe t) := by
  have moved := keeps_clearLoss (keeps_moveTo (st := .failsafe) h)
  unfold enterFailsafe
  exact keeps_raiseEvent (.ite (keeps_releaseDrum (keeps_brakeBridgeA (keeps_setIntake moved))) (keeps_setIntake moved))

theorem keeps_enterCutoff {cause : CutoffCause} (h : Keeps s t) : Keeps s (enterCutoff cause t) := by
  have safe := keeps_clearIntake (keeps_goSafe (reason := .cutoff) (keeps_abandonCheck (keeps_moveTo (st := .cutoff) h)))
  have dark := keeps_darkenForCutoff (keeps_startReportTimer safe)
  unfold enterCutoff
  exact .ite h (.ite (keeps_requestBreak (keeps_addFaultIn (keeps_setPower (keeps_setNode dark))))
    (keeps_addFaultIn (keeps_setPower (keeps_setNode dark))))

theorem keeps_enterConflict {cause : ConflictCause} {strapCode : Nat} (h : Keeps s t) :
    Keeps s (enterConflict cause strapCode t) := by
  have safe := keeps_goSafe (reason := .fault) (keeps_abandonCheck (keeps_moveTo (st := .conflict) h))
  exact keeps_startBeat (keeps_placeNotice (keeps_clearIntake (keeps_addFaultIn (keeps_setNode safe))))

/-! ## The CHECK sequence -/

theorem keeps_withdrawA {result : CheckResult} (h : Keeps s t) : Keeps s (withdrawA result t) := by
  unfold withdrawA
  have held {m : BridgeMode} {x : Monitor} (hx : x.faults = t.monitor.faults) :
      Keeps s (forceBridgeA m 0 (zeroDrive (t.setMonitor x))) :=
    keeps_forceBridgeA (keeps_zeroDrive (keeps_setMonitor h hx))
  exact .ite (keeps_setDrum (keeps_offBridgeB (keeps_closeOperation (held rfl)))) (held rfl)

theorem keeps_withdrawB (h : Keeps s t) : Keeps s (withdrawB t) := by
  unfold withdrawB
  exact .ite (keeps_setDrum (keeps_offBridgeB (keeps_setMonitor h))) (keeps_offBridgeB (keeps_setMonitor h))

theorem keeps_withdrawLamp {l : Lamp} {current : Nat} (h : Keeps s t) : Keeps s (withdrawLamp l current t) :=
  keeps_addFault (keeps_setMonitor (keeps_setLights h))

theorem keeps_setSensor {x : Sensor} {v : SensorState} (h : Keeps s t) : Keeps s (setSensor x v t) := by
  cases x <;> exact keeps_setMonitor h

theorem keeps_failSensor {x : Sensor} {reading : Int} (h : Keeps s t) : Keeps s (failSensor x reading t) :=
  keeps_addFault (keeps_setSensor h)

theorem keeps_thermalEffects {before : ThermalClass} (h : Keeps s t) : Keeps s (thermalEffects before t) := by
  have lowered : Keeps s (if before = .normal ∧ thermalClass t ≠ .normal then lowerAllowance t else t) :=
    .ite (keeps_lowerAllowance h) h
  unfold thermalEffects
  refine .ite ?_ lowered
  have shut := keeps_shutBridgeA (keeps_addFault (kind := .overtemp)
    (output := .sensor (if t.monitor.ts1.thermal = .shutdown then .ts1 else .die))
    (detail := (sensorOf (if t.monitor.ts1.thermal = .shutdown then .ts1 else .die) t.monitor).reading)
    (keeps_offBridgeB lowered))
  have closed := keeps_setDrum (d := .braked) (keeps_closeOperation (reason := .fault) shut)
  dsimp only
  split
  · exact closed
  · exact closed
  · exact closed
  · exact keeps_setDrum shut
  all_goals exact shut

theorem keeps_checkSensor {x : Sensor} {reading : Int} (h : Keeps s t) : Keeps s (checkSensor x reading t) := by
  unfold checkSensor
  exact .ite (.ite (keeps_setSensor h) (keeps_failSensor h)) (keeps_setSensor h)

theorem keeps_temperatureStep (h : Keeps s t) : Keeps s (temperatureStep t) :=
  keeps_thermalEffects (keeps_checkSensor (keeps_checkSensor h))

theorem keeps_driveStep {st : CheckStep} (h : Keeps s t) : Keeps s (driveStep st t) := by
  cases st <;> exact h.aside

theorem keeps_beginStep {st : CheckStep} (h : Keeps s t) : Keeps s (beginStep st t) :=
  keeps_driveStep (keeps_setMonitor h)

theorem keeps_enterSafe (h : Keeps s t) : Keeps s (enterSafe t) := by
  have safe := keeps_holdBridgeA (keeps_releaseDrum (reason := .fault) (keeps_endTripWaitB (keeps_offBridgeB
    (keeps_clearLoss (keeps_abandonCheck (keeps_moveTo (st := .safe) h))))))
  unfold enterSafe
  exact .ite (keeps_placeWinch safe) safe

theorem keeps_reachStep {st : CheckStep} (h : Keeps s t) : Keeps s (reachStep st t) := by
  unfold reachStep
  split
  · exact h.aside
  · exact keeps_temperatureStep (t := commitRatings t) h.aside
  · exact h

theorem keeps_advance {steps : List CheckStep} (h : Keeps s t) : Keeps s (advance steps t) := by
  induction steps generalizing t with
  | nil => exact keeps_enterSafe h
  | cons st rest ih =>
    have reached := keeps_reachStep (st := st) h
    unfold advance
    exact .ite (ih reached) (.ite (ih reached) (.ite (keeps_setMonitor reached) (keeps_beginStep reached)))

theorem keeps_completeStep {st : CheckStep} (h : Keeps s t) : Keeps s (completeStep st t) :=
  keeps_advance (keeps_restBridges (keeps_setMonitor h))

theorem keeps_enterCheck (h : Keeps s t) : Keeps s (enterCheck t) := by
  have safe := keeps_clearIntake (keeps_goSafe (reason := .fault) (keeps_moveTo (st := .check) h))
  exact keeps_advance (keeps_setMonitor (keeps_setMonitor safe))

/-! ## An image comes into force; the resets -/

theorem keeps_applyImage {img : ImageInForce} (h : Keeps s t) : Keeps s (applyImage img t) := by
  unfold applyImage
  have applied {n : Node} {d : Drive} {p : Power} (hn : Keeps s (t.setNode n)) :
      Keeps s (clearMarks ((setFunctions img.fields.lights ((t.setNode n).setDrive d)).setPower p)) :=
    keeps_clearMarks (keeps_setPower (keeps_setFunctions (keeps_setDrive hn)))
  exact .ite (keeps_holdBridgeA (keeps_setWinch (applied (keeps_setNode h)))) (applied (keeps_setNode h))

/-- RESTART empties the queue and the peer table, whatever stood in them (R22, R49). -/
theorem peerInv_restartBlocks (s : State) : PeerInv (restartBlocks s) := peerInv_of_empty rfl rfl

theorem boundsInv_restartBlocks (h : BoundsInv s) : BoundsInv (restartBlocks s) :=
  have zero : ∀ n ∈ counterList BusCounters.zero, n ≤ 255 := by decide
  { h with counters := zero, queue := Nat.zero_le _, assignIgnored := Nat.zero_le _, sequence := Nat.zero_le _ }

theorem restartBlocks_slot (k : TxKind) (s : State) :
    (restartBlocks s).bus.slots.get k = (s.bus.slots.get k).restart (lineKind s = some k) := by
  cases k <;> rfl

/-- A frame on the line stays in its slot at RESTART (R22). -/
theorem transmitInv_restartBlocks (h : TransmitInv s) : TransmitInv (restartBlocks s) where
  slots k := by
    rw [restartBlocks_slot]
    exact slotInv_restart _ (h.slots k)
  onLine k hk := by
    have line : s.bus.tx.attempt.map Attempt.kind = some k := hk
    change lineKind s = some k at line
    rw [restartBlocks_slot]
    simpa [line, Slot.restart] using h.onLine k line

theorem keeps_restartBlocks (h : Keeps s t) : Keeps s (restartBlocks t) :=
  h.trans ⟨boundsInv_restartBlocks, transmitInv_restartBlocks, fun _ => peerInv_restartBlocks t⟩

end Sys2Proof.TrailBus
end

section
/-! SUPPORT. The meaning of every command keeps the invariants of O9 and O10, unit by unit, in the order of `exec`. -/

namespace Sys2Proof.TrailBus

open Sys2Proof Sys2Proof.Machine Sys2Proof.Safety

set_option Elab.async false

variable {s t : State}

/-! ## Answers -/

/-- Every next state that a command answers with keeps the invariants. -/
def AnswerKeeps (s : State) (a : Answer) : Prop := ∀ t, a = .next t → Keeps s t

theorem AnswerKeeps.next (h : Keeps s t) : AnswerKeeps s (.next t) := by
  rintro u ⟨⟩
  exact h

theorem AnswerKeeps.done (h : Keeps s t) : AnswerKeeps s (done t) := .next (keeps_settle h)

theorem AnswerKeeps.ite {a b : Answer} {c : Prop} [Decidable c] (h : AnswerKeeps s a) (k : AnswerKeeps s b) :
    AnswerKeeps s (if c then a else b) := by
  split
  · exact h
  · exact k

/-- A command whose occasion is absent. -/
theorem AnswerKeeps.idle (s : State) : AnswerKeeps s (.next s) := .next (.refl s)

/-! ## The bus port (spec 01) -/

theorem boundsInv_reset : BoundsInv State.reset :=
  ⟨by decide, Nat.zero_le _, Nat.zero_le _, Nat.zero_le _, Nat.zero_le _, Nat.zero_le _, Nat.zero_le _, Nat.zero_le _⟩

theorem transmitInv_reset : TransmitInv State.reset where
  slots k := by cases k <;> exact slotInv_empty
  onLine k hk := absurd hk nofun

theorem peerInv_reset : PeerInv State.reset := peerInv_of_empty rfl rfl

/-- POWER_ON_RESET leaves the reset state but for what the invariants do not read (R39). -/
theorem answerKeeps_powerOnReset (s : State) : AnswerKeeps s (execPowerOnReset s) := by
  have after : Keeps State.reset { State.reset with
      now := s.now, pins := s.pins, node := { Node.reset with serial := s.node.serial }, pending := s.pending } :=
    (Keeps.refl _).aside
  exact .next ⟨fun _ => after.bounds boundsInv_reset, fun _ => after.transmit transmitInv_reset,
    fun _ => after.peers peerInv_reset⟩

theorem answerKeeps_busIdle (s : State) : AnswerKeeps s (execBusIdle s) := .next (keeps_setRx (.refl s))

theorem answerKeeps_frameStart (s : State) : AnswerKeeps s (execFrameStart s) := .next (keeps_setRx (.refl s))

theorem keeps_countUnless {exempt : Bool} {count : State → State} (h : Keeps s t) (hc : Keeps s (count t)) :
    Keeps s (countUnless exempt count t) := .ite h hc

theorem keeps_countFailure {how : RxFail} (h : Keeps s t) : Keeps s (countFailure how t) := by
  cases how
  case startPayloadOrCrc => exact keeps_countFormat h
  case lengthAbove12 => exact keeps_countFormat h
  all_goals exact keeps_countFraming h

theorem answerKeeps_receptionFailed (how : RxFail) (s : State) : AnswerKeeps s (execReceptionFailed how s) := by
  unfold execReceptionFailed
  exact .ite (.next (keeps_setRx (keeps_countUnless (.refl s) (keeps_countFailure (.refl s))))) (.idle s)

theorem senderAllowed_of_judgeHeader {header : Byte} {payload p : List Byte} {kind : FrameKind} {sender : Nat}
    (h : judgeHeader header payload = .valid kind sender p) : senderAllowed kind sender = true := by
  unfold judgeHeader at h
  split at h
  · cases h
  · split at h
    · cases h; assumption
    · cases h

/-- A valid frame has a sender of its kind's class (R5, R8). -/
theorem senderAllowed_of_judgeFrame {bytes payload : List Byte} {kind : FrameKind} {sender : Nat}
    (h : judgeFrame bytes = .valid kind sender payload) : senderAllowed kind sender = true := by
  unfold judgeFrame at h
  split at h
  · split at h
    · cases h
    · split at h
      · cases h
      · exact senderAllowed_of_judgeHeader h
  · cases h

/-- A frame joins the queue outside STRAP, marked by its sender (R9, R10). -/
theorem keeps_enqueue {f : RxFrame} (h : Keeps s t) (strap : t.node.state ≠ .strap)
    (sender : senderAllowed f.kind f.sender = true) (own : f.own = decide (stationOf t = some f.sender)) :
    Keeps s (enqueue f t) := by
  unfold enqueue
  split
  next room =>
    refine h.trans ⟨fun b => { b with queue := ?_ }, fun x => { x with }, fun p => ?_⟩
    · simpa using room
    · refine { p with queueClass := fun g hg => ?_, queueOwn := fun g hg => ?_, strapEmpty := fun hs => absurd hs strap }
      all_goals rcases List.mem_append.1 hg with hq | hq
      · exact p.queueClass g hq
      · cases List.mem_singleton.1 hq; exact sender
      · exact p.queueOwn g hq
      · cases List.mem_singleton.1 hq; exact own
  next => exact keeps_countOverrun h

theorem keeps_disposeFrame {echo : Bool} {kind : FrameKind} {sender : Nat} {payload : List Byte} (h : Keeps s t)
    (allowed : senderAllowed kind sender = true) : Keeps s (disposeFrame echo kind sender payload t) := by
  unfold disposeFrame
  split
  · exact h
  next strap => exact .ite h (.ite h (keeps_enqueue h strap allowed rfl))

theorem answerKeeps_frameReceived (bytes : List Byte) (s : State) : AnswerKeeps s (execFrameReceived bytes s) := by
  unfold execFrameReceived
  refine .ite ?_ (.idle s)
  dsimp only
  split
  next => exact .next (keeps_countUnless (keeps_setRx (.refl s)) (keeps_countFormat (keeps_setRx (.refl s))))
  next => exact .next (keeps_countUnless (keeps_setRx (.refl s)) (keeps_countCrc (keeps_setRx (.refl s))))
  next hv => exact .next (keeps_disposeFrame (keeps_setRx (.refl s)) (senderAllowed_of_judgeFrame hv))

theorem answerKeeps_breakRecognised (s : State) : AnswerKeeps s (execBreakRecognised s) := by
  unfold execBreakRecognised
  exact .ite (.next (keeps_setRx (.refl s))) (.done (keeps_enterCutoff (keeps_setRx (.refl s))))

/-- An attempt starts on a frame that its slot holds. -/
theorem answerKeeps_attemptStart (s : State) : AnswerKeeps s (execAttemptStart s) := by
  unfold execAttemptStart
  refine .ite ?_ (.idle s)
  split
  · exact .idle s
  next k _ =>
    cases hf : heldFrame s k with
    | none => exact .idle s
    | some f =>
      obtain ⟨h, hh, _⟩ := Option.map_eq_some_iff.1 hf
      refine .next (keeps_setTx (.refl s) fun a ha => .inr ?_)
      cases ha
      simp [hh]

theorem keeps_loseAttempt {k : TxKind} (h : Keeps s t) : Keeps s (loseAttempt k t) := by
  have lost : Keeps s (setSlot k (t.bus.slots.get k).lose.1 (clearAttempt t)) := keeps_setSlot_clearAttempt h slotInv_lose
  unfold loseAttempt
  exact .ite (keeps_countAnswerDrop lost) lost

theorem keeps_markExempt (h : Keeps s t) : Keeps s (markExempt t) := keeps_setRx h

theorem answerKeeps_arbitrationLost (s : State) : AnswerKeeps s (execArbitrationLost s) := by
  unfold execArbitrationLost
  split
  · exact .idle s
  · exact .next (keeps_loseAttempt (.refl s))

theorem keeps_raiseLineFault (h : Keeps s t) : Keeps s (raiseLineFault t) :=
  h.trans ⟨fun b => { b with lineFaultRun := bumpTo_le 16 _ }, fun x => { x with }, fun p => peerInv_of_same p⟩

theorem answerKeeps_lineFault (s : State) : AnswerKeeps s (execLineFault s) := by
  unfold execLineFault
  split
  · exact .idle s
  · exact .next (keeps_markExempt (keeps_raiseLineFault (keeps_countLineFault (keeps_loseAttempt (.refl s)))))

theorem answerKeeps_collision (s : State) : AnswerKeeps s (execCollision s) := by
  unfold execCollision
  split
  · exact .idle s
  next k _ =>
    have collided : Keeps s (countCollision
        (setSlot k ((s.bus.slots.get k).collide s.node.serial).1 (clearAttempt s))) :=
      keeps_countCollision (keeps_setSlot_clearAttempt (.refl s) (slotInv_collide _))
    exact .next (keeps_markExempt (.ite (keeps_countTxDrop collided) collided))

theorem answerKeeps_backoffExpiry (k : TxKind) (s : State) : AnswerKeeps s (execBackoffExpiry k s) :=
  .next (keeps_setSlot (.refl s) slotInv_expire fun _ hh => by simpa [Slot.expire] using hh)

theorem keeps_completeAttempt (h : Keeps s t) : Keeps s (completeAttempt t) :=
  keeps_setRx ((keeps_finishAttempt h).trans ⟨fun b => { b with lineFaultRun := Nat.zero_le _ }, fun x => { x with },
    fun p => peerInv_of_same p⟩)

theorem answerKeeps_breakEnd (s : State) : AnswerKeeps s (execBreakEnd s) :=
  .next (keeps_setTx (.refl s) fun _ ha => .inl ha)

/-! ## The light sequencer (spec 09) -/

theorem keeps_restartCycle (h : Keeps s t) : Keeps s (restartCycle t) := h.aside

theorem keeps_wrapCycle (h : Keeps s t) : Keeps s (wrapCycle t) := by
  unfold wrapCycle
  exact .ite (keeps_placeFrame (keeps_setLights h)) (keeps_setLights h)

theorem keeps_mapChannels {f : Lamp → Channel → Channel} (h : Keeps s t) : Keeps s (mapChannels f t) := h.aside

theorem keeps_promoteAtWrap (h : Keeps s t) : Keeps s (promoteAtWrap t) := h.aside

theorem keeps_resolveChannels (h : Keeps s t) : Keeps s (resolveChannels t) := h.aside

theorem keeps_stageChannels (h : Keeps s t) : Keeps s (stageChannels t) := h.aside

theorem keeps_beatStep (h : Keeps s t) : Keeps s (beatStep t) :=
  keeps_stageChannels (keeps_resolveChannels (keeps_setLights
    (.ite (keeps_promoteAtWrap (keeps_wrapCycle (keeps_mapChannels h))) (keeps_setLights (keeps_mapChannels h)))))

theorem answerKeeps_attemptComplete (s : State) : AnswerKeeps s (execAttemptComplete s) := by
  unfold execAttemptComplete
  split
  · exact .idle s
  · exact .next (.ite (keeps_restartCycle (keeps_completeAttempt (.refl s))) (keeps_completeAttempt (.refl s)))

theorem answerKeeps_beatEvent (s : State) : AnswerKeeps s (execBeatEvent s) :=
  .next (.ite (keeps_beatStep (.refl s)) (.refl s))

theorem answerKeeps_beatTaken (s : State) : AnswerKeeps s (execBeatTaken s) := by
  unfold execBeatTaken
  split
  · exact .idle s
  · split
    · exact .next (keeps_popQueue (.refl s))
    · exact .next (keeps_restartCycle (keeps_setLights (keeps_withdrawFrame (keeps_popQueue (.refl s)))))

theorem answerKeeps_lampShort (l : Lamp) (current : Nat) (s : State) : AnswerKeeps s (execLampShort l current s) := by
  unfold execLampShort
  exact .ite (.done (keeps_withdrawLamp (.refl s))) (.idle s)

/-! ## The node controller (spec 02, 03) -/

/-- In STRAP the queue and the table are empty, so the position read makes no held frame or entry wrong. -/
theorem keeps_setNode_strap {x : Node} (strap : s.node.state = .strap)
    (assignIgnored : x.assignIgnored = s.node.assignIgnored := by rfl) (uptime : x.uptime = s.node.uptime := by rfl)
    (sequence : x.sequence = s.node.sequence := by rfl) : Keeps s (s.setNode x) where
  bounds b := { b with
    assignIgnored := assignIgnored ▸ b.assignIgnored, uptime := uptime ▸ b.uptime, sequence := sequence ▸ b.sequence }
  transmit x := { x with }
  peers p := peerInv_of_empty (p.strapEmpty strap).1 (p.strapEmpty strap).2

theorem answerKeeps_strapReadSuccess (p : Position) (s : State) : AnswerKeeps s (execStrapReadSuccess p s) := by
  unfold execStrapReadSuccess
  split
  next strap => exact .next (keeps_enterListen (keeps_setNode_strap strap))
  next => exact .idle s

theorem answerKeeps_strapReadFail (last : Option Position) (s : State) : AnswerKeeps s (execStrapReadFail last s) := by
  unfold execStrapReadFail
  exact .ite (.next (keeps_enterConflict (keeps_setNode (.refl s)))) (.idle s)

theorem answerKeeps_silenceTimerExpiry (s : State) : AnswerKeeps s (execSilenceTimerExpiry s) := by
  have reported : Keeps s (placeReport (s.setNode { s.node with silenceTimer := none })) :=
    keeps_placeReport (keeps_setNode (.refl s))
  unfold execSilenceTimerExpiry
  exact .ite (.done (.ite (keeps_enterCheck reported) reported)) (.idle s)

theorem answerKeeps_defaultTimerExpiry (s : State) : AnswerKeeps s (execDefaultTimerExpiry s) := by
  unfold execDefaultTimerExpiry
  exact .ite (.ite (.next (keeps_setNode (.refl s)))
    (.done (keeps_enterCheck (keeps_setNode (keeps_applyImage (.refl s)))))) (.idle s)

theorem keeps_completeImage (h : Keeps s t) : Keeps s (completeImage t) := by
  unfold completeImage
  exact .ite (.ite (keeps_enterCheck (keeps_applyImage h)) (keeps_applyImage h)) (keeps_countCfgIgnored (keeps_setNode h))

theorem keeps_stageSegment {index : Nat} {bytes : List Byte} (h : Keeps s t) : Keeps s (stageSegment index bytes t) := by
  unfold stageSegment
  exact .ite (keeps_completeImage (keeps_setNode h)) (keeps_setNode h)

theorem keeps_takeConfig {payload : List Byte} (h : Keeps s t) : Keeps s (takeConfig payload t) := by
  unfold takeConfig
  refine .ite ?_ (keeps_countCfgIgnored h)
  cases payload with
  | nil => exact keeps_countCfgIgnored h
  | cons i bytes => exact .ite (keeps_stageSegment h) (keeps_countCfgIgnored h)

theorem answerKeeps_config (s : State) : AnswerKeeps s (execConfig s) := by
  unfold execConfig
  split
  · exact .idle s
  · exact .done (keeps_takeConfig (keeps_popQueue (.refl s)))

/-- The new position comes with an empty queue and table (R33, Table 2-7). -/
theorem keeps_acceptAssign {p : Position} (h : Keeps s t) : Keeps s (acceptAssign p t) :=
  keeps_enterListen (h.trans ⟨fun b => boundsInv_restartBlocks { b with },
    fun x => transmitInv_restartBlocks { x with }, fun _ => peerInv_restartBlocks _⟩)

theorem keeps_refuseAssign (h : Keeps s t) : Keeps s (refuseAssign t) := keeps_placeNotice (keeps_setNode h)

theorem keeps_ignoreAssign (h : Keeps s t) :
    Keeps s (t.setNode { t.node with assignIgnored := bumpTo 255 t.node.assignIgnored }) :=
  h.trans
    { bounds := fun b => { b with assignIgnored := bumpTo_le 255 _ }
      transmit := fun x => { x with }
      peers := fun p => peerInv_of_same p }

theorem keeps_takeAssign {serial : BitVec 24} {position : Nat} (h : Keeps s t) : Keeps s (takeAssign serial position t) := by
  unfold takeAssign
  refine .ite ?_ (keeps_ignoreAssign h)
  cases posOfCode position with
  | none => exact keeps_refuseAssign h
  | some p => exact .ite (keeps_refuseAssign h) (keeps_acceptAssign h)

theorem answerKeeps_assign (s : State) : AnswerKeeps s (execAssign s) := by
  unfold execAssign
  split
  · exact .idle s
  · split
    · exact .next (keeps_popQueue (.refl s))
    · exact .next (keeps_takeAssign (keeps_popQueue (.refl s)))

theorem answerKeeps_ownStationFrame (s : State) : AnswerKeeps s (execOwnStationFrame s) := by
  unfold execOwnStationFrame
  split
  · exact .idle s
  · exact .next (.ite (keeps_enterConflict (keeps_popQueue (.refl s))) (keeps_popQueue (.refl s)))

theorem answerKeeps_conflictNoticeTimer (s : State) : AnswerKeeps s (execConflictNoticeTimer s) :=
  .next (.ite (keeps_placeNotice (.refl s)) (.refl s))

theorem answerKeeps_uptimeTick (s : State) : AnswerKeeps s (execUptimeTick s) :=
  .next
    { bounds := fun b => { b with uptime := bumpTo_le 16777215 _ }
      transmit := fun x => { x with }
      peers := fun p => peerInv_of_same p }

theorem answerKeeps_reportTimerExpiry (s : State) : AnswerKeeps s (execReportTimerExpiry s) :=
  .next (.ite (keeps_placeReport (.refl s)) (.refl s))

theorem answerKeeps_heldEventSpacingExpiry (s : State) : AnswerKeeps s (execHeldEventSpacingExpiry s) :=
  .next (.ite (keeps_placeReport (.refl s)) (.refl s))

/-! ## The peer monitor (spec 03) -/

theorem mem_putPeer {e x : PeerEntry} {table : List PeerEntry} (h : x ∈ putPeer e table) : x = e ∨ x ∈ table := by
  induction table with
  | nil => simpa [putPeer] using h
  | cons y rest ih =>
    unfold putPeer at h
    split at h
    · simpa using h
    · split at h
      · exact (List.mem_cons.1 h).imp_right (List.mem_cons_of_mem y)
      · rcases List.mem_cons.1 h with rfl | hr
        · exact .inr List.mem_cons_self
        · exact (ih hr).imp_right (List.mem_cons_of_mem y)

/-- An entry created or renewed keeps the ascending order of stations (R45). -/
theorem putPeer_ascending (e : PeerEntry) {table : List PeerEntry} (h : (table.map PeerEntry.station).Pairwise (· < ·)) :
    ((putPeer e table).map PeerEntry.station).Pairwise (· < ·) := by
  induction table with
  | nil => simp [putPeer]
  | cons y rest ih =>
    rw [List.map_cons, List.pairwise_cons] at h
    obtain ⟨above, ordered⟩ := h
    unfold putPeer
    split
    next lower =>
      simp only [List.map_cons, List.pairwise_cons]
      refine ⟨fun n hn => ?_, above, ordered⟩
      rcases List.mem_cons.1 hn with rfl | hr
      · exact lower
      · exact lower.trans (above n hr)
    next notLower =>
      split
      next same =>
        rw [List.map_cons, List.pairwise_cons, same]
        exact ⟨above, ordered⟩
      next other =>
        rw [List.map_cons, List.pairwise_cons]
        refine ⟨fun n hn => ?_, ih ordered⟩
        obtain ⟨x, hx, rfl⟩ := List.mem_map.1 hn
        rcases mem_putPeer hx with rfl | hr
        · omega
        · exact above _ (List.mem_map_of_mem hr)

theorem readReport_station {station : Nat} {payload : List Byte} {e : PeerEntry}
    (h : readReport station payload = some (.ordinary e)) : e.station = station := by
  unfold readReport at h
  split at h
  · split at h <;> cases h
  · split at h <;> cases h
    rfl
  · split at h <;> cases h
    rfl
  · cases h

theorem headOfKind_eq_some {kind : FrameKind} {f : RxFrame} (h : headOfKind kind s = some f) :
    f ∈ s.bus.queue ∧ f.kind = kind ∧ f.own = false := by
  unfold headOfKind at h
  split at h
  · cases h
  next g rest hq =>
    split at h
    next hg => cases h; exact ⟨by simp [hq], hg⟩
    next => cases h

/-- An entry of a station other than this node joins the table (R45). -/
theorem peerInv_setPeers_putPeer {e : PeerEntry} (p : PeerInv s) (range : 1 ≤ e.station ∧ e.station ≤ 8)
    (other : stationOf s ≠ some e.station) (placed : stationOf s ≠ none) (strap : s.node.state ≠ .strap) :
    PeerInv (s.setPeers { s.peers with table := putPeer e s.peers.table }) := by
  refine { p with
    ascending := putPeer_ascending e p.ascending, range := fun x hx => ?_, notOwn := fun x hx => ?_
    noStation := fun hn => absurd hn placed, strapEmpty := fun hs => absurd hs strap }
  · rcases mem_putPeer hx with rfl | held
    · exact range
    · exact p.range x held
  · rcases mem_putPeer hx with rfl | held
    · exact other
    · exact p.notOwn x held

/-- A REPORT taken from the queue is one of another station, in its class (R5, R9). -/
theorem keeps_takeReport {f : RxFrame} (h : headOfKind .report s = some f) : Keeps s (takeReport f (popQueue s)) := by
  have popped : Keeps s (popQueue s) := keeps_popQueue (.refl s)
  obtain ⟨queued, kind, own⟩ := headOfKind_eq_some h
  unfold takeReport
  split
  next n e station read =>
    refine ⟨fun b => { popped.bounds b with }, fun x => { x with }, fun p => ?_⟩
    have sender : e.station = f.sender := readReport_station read
    have placed : stationOf s ≠ none := fun none => nomatch none.symm.trans station
    refine peerInv_setPeers_putPeer (popped.peers p) ?range ?other placed fun strap => ?strap
    case range => simpa [senderAllowed, kind, sender] using p.queueClass f queued
    case other =>
      have unmarked : stationOf s ≠ some f.sender := by simpa [own] using p.queueOwn f queued
      rwa [sender]
    case strap => exact absurd queued (by simp [(p.strapEmpty strap).1])
  next => exact popped

theorem answerKeeps_report (s : State) : AnswerKeeps s (execReport s) := by
  unfold execReport
  split
  · exact .idle s
  next hf => exact .next (keeps_takeReport hf)

theorem answerKeeps_peerLost (station : Nat) (s : State) : AnswerKeeps s (execPeerLost station s) := by
  unfold execPeerLost
  split
  · exact .idle s
  · exact .next ⟨fun b => { b with }, fun x => { x with },
      fun p => peerInv_of_stations p (List.filter_sublist.map PeerEntry.station)⟩

theorem answerKeeps_winch (s : State) : AnswerKeeps s (execWinch s) := by
  have popped : Keeps s (popQueue s) := keeps_popQueue (.refl s)
  unfold execWinch
  split
  · exact .idle s
  · refine .next (.ite popped ?_)
    split
    · exact popped
    · exact keeps_setPeers popped

theorem answerKeeps_winchLinkExpiry (s : State) : AnswerKeeps s (execWinchLinkExpiry s) := .next (keeps_setPeers (.refl s))

/-! ## The queries (spec 03) -/

theorem answerKeeps_onQuery {code : QueryCode} {act : QueryRead → State → State}
    (hact : ∀ q t, Keeps s t → Keeps s (act q t)) : AnswerKeeps s (onQuery code act s) := by
  have popped : Keeps s (popQueue s) := keeps_popQueue (.refl s)
  unfold onQuery
  split
  · exact .idle s
  · exact .ite (.done (.ite (hact _ _ popped) popped)) (.idle s)

theorem keeps_answerIndexed {α : Type} {top : Nat} {l : List α} {data : α → List Byte} {q : QueryRead} (h : Keeps s t) :
    Keeps s (answerIndexed top l data q t) := by
  unfold answerIndexed
  refine .ite (keeps_placeAnswer h) ?_
  split <;> exact keeps_placeAnswer h

theorem answerKeeps_answerOk {code : QueryCode} {data : State → List Byte} (s : State) :
    AnswerKeeps s (onQuery code (answerOk data) s) := answerKeeps_onQuery fun _ _ h => keeps_placeAnswer h

theorem answerKeeps_fault (s : State) : AnswerKeeps s (execFault s) :=
  answerKeeps_onQuery fun _ _ h => keeps_answerIndexed h

theorem answerKeeps_winchLog (s : State) : AnswerKeeps s (execWinchLog s) :=
  answerKeeps_onQuery fun _ _ h => .ite (keeps_answerIndexed h) (keeps_placeAnswer h)

theorem keeps_restartNode {q : QueryRead} (h : Keeps s t) : Keeps s (restartNode q t) :=
  keeps_enterListen (keeps_placeAnswer (keeps_restartBlocks (keeps_goSafe (keeps_abandonCheck h))))

theorem answerKeeps_restart (s : State) : AnswerKeeps s (execRestart s) :=
  answerKeeps_onQuery fun _ _ h => .ite (keeps_placeAnswer h) (keeps_restartNode h)

theorem answerKeeps_recheck (s : State) : AnswerKeeps s (execRecheck s) :=
  answerKeeps_onQuery fun _ _ h => .ite (keeps_enterCheck (keeps_placeAnswer h)) (keeps_placeAnswer h)

theorem answerKeeps_queryUnknownCode (s : State) : AnswerKeeps s (execQueryUnknownCode s) := by
  have popped : Keeps s (popQueue s) := keeps_popQueue (.refl s)
  unfold execQueryUnknownCode
  split
  · exact .idle s
  · split
    · exact .next popped
    · exact .ite (.idle s) (.next (.ite (keeps_placeAnswer popped) popped))

/-! ## The command intake (spec 04) -/

theorem keeps_offerCommand (h : Keeps s t) : Keeps s (offerCommand t) := h.aside

theorem keeps_refreshLink {sender : Nat} (h : Keeps s t) : Keeps s (refreshLink sender t) := h.aside

theorem keeps_judgeCommand (h : Keeps s t) : Keeps s (judgeCommand t) := by
  unfold judgeCommand
  dsimp only
  split
  · exact .ite (.ite (keeps_offerCommand h) (keeps_offerCommand (keeps_enterRun h))) (keeps_offerCommand (keeps_setNode h))
  · exact keeps_offerCommand h
  · exact .ite (keeps_offerCommand (keeps_enterRun h)) h
  all_goals exact h

theorem keeps_dealCommand {sender : Nat} {payload : List Byte} (h : Keeps s t) : Keeps s (dealCommand sender payload t) := by
  unfold dealCommand
  refine .ite h ?_
  split
  · exact h
  · exact .ite (keeps_refreshLink h) (keeps_judgeCommand (keeps_setIntake (keeps_refreshLink h)))

theorem answerKeeps_command (s : State) : AnswerKeeps s (execCommand s) := by
  unfold execCommand
  split
  · exact .idle s
  · exact .done (keeps_dealCommand (keeps_popQueue (.refl s)))

theorem answerKeeps_linkExpiry (s : State) : AnswerKeeps s (execLinkExpiry s) := by
  unfold execLinkExpiry
  refine .ite ?_ (.idle s)
  split
  · exact .next (keeps_setIntake (.refl s))
  · exact .done (keeps_enterFailsafe (keeps_setIntake (.refl s)))
  · exact .next (keeps_setIntake (.refl s))
  all_goals exact .idle s

theorem answerKeeps_failsafeStage2 (s : State) : AnswerKeeps s (execFailsafeStage2 s) := by
  unfold execFailsafeStage2
  exact .ite (.next (keeps_offBridgeB (keeps_setIntake (.refl s)))) (.idle s)

/-! ## The power supervisor (spec 05) -/

theorem keeps_cutoffOn {cause : Option CutoffCause} (h : Keeps s t) : Keeps s (cutoffOn cause t) := by
  unfold cutoffOn
  split
  · exact h
  · exact keeps_enterCutoff h

theorem keeps_stageJudge (h : Keeps s t) : Keeps s (stageJudge t) :=
  keeps_cutoffOn (keeps_cutoffOn (.ite (keeps_setPower h) (keeps_raiseEvent (keeps_setPower h))))

theorem keeps_stagePack (h : Keeps s t) : Keeps s (stagePack t) := h.aside

theorem keeps_stageReadings {r : BudgetReadings} (h : Keeps s t) : Keeps s (stageReadings r t) := h.aside

theorem keeps_stageShare {l : Protection} (h : Keeps s t) : Keeps s (stageShare l t) := h.aside

theorem keeps_budgetTick {r : BudgetReadings} (h : Keeps s t) : Keeps s (budgetTick r t) :=
  keeps_clearMarks (keeps_stageShare (keeps_stageJudge (keeps_stagePack (keeps_stageReadings h))))

theorem answerKeeps_budgetTick (r : BudgetReadings) (s : State) : AnswerKeeps s (execBudgetTick r s) := by
  have presented : Keeps s (presentReadings r s) := keeps_setPins (.refl s)
  unfold execBudgetTick
  exact .ite (.done (keeps_budgetTick presented)) (.next presented)

theorem answerKeeps_peerCutoffTest (s : State) : AnswerKeeps s (execPeerCutoffTest s) := by
  unfold execPeerCutoffTest
  exact .ite (.idle s) (.done (.ite (keeps_enterCutoff (keeps_setPower (.refl s))) (keeps_setPower (.refl s))))

/-! ## The steering unit (spec 06) -/

theorem keeps_readActuator {pot isb : Nat} (h : Keeps s t) : Keeps s (readActuator pot isb t) := h.aside

theorem keeps_startLoop (h : Keeps s t) : Keeps s (startLoop t) := by
  unfold startLoop
  exact .ite h (keeps_setSteer h)

theorem keeps_declareStall {err : Int} (h : Keeps s t) : Keeps s (declareStall err t) := by
  unfold declareStall
  exact .ite (keeps_addFault (keeps_setSteer h)) (keeps_setSteer h)

theorem keeps_loopTick {isb : Nat} (h : Keeps s t) : Keeps s (loopTick isb t) :=
  keeps_writeBridgeB (.ite (keeps_declareStall (keeps_setSteer h)) (keeps_setSteer h))

theorem answerKeeps_actuatorTick (pot isb : Nat) (s : State) : AnswerKeeps s (execActuatorTick pot isb s) := by
  have read : Keeps s (readActuator pot isb s) := keeps_readActuator (.refl s)
  unfold execActuatorTick
  exact .ite (.ite (.done (keeps_loopTick (keeps_startLoop read))) (.next (.ite (keeps_offBridgeB read) read)))
    (.next (keeps_setPins (.refl s)))

theorem answerKeeps_steerStall (s : State) : AnswerKeeps s (execSteerStall s) := by
  unfold execSteerStall
  exact .ite (.done (keeps_writeBridgeB (keeps_declareStall (.refl s)))) (.idle s)

theorem answerKeeps_stallLimitEnd (s : State) : AnswerKeeps s (execStallLimitEnd s) := .next (keeps_setSteer (.refl s))

theorem answerKeeps_steerSensorLost (pot : Nat) (s : State) : AnswerKeeps s (execSteerSensorLost pot s) := by
  unfold execSteerSensorLost
  exact .ite (.done (keeps_addFault (keeps_offBridgeB (keeps_raiseEvent (keeps_setSteer (keeps_setPins (.refl s)))))))
    (.idle s)

/-! ## The drive unit (spec 07) -/

theorem keeps_loseEncoder (h : Keeps s t) : Keeps s (loseEncoder t) := keeps_addFault (keeps_setDrive h)

theorem keeps_recoverEncoder (h : Keeps s t) : Keeps s (recoverEncoder t) := keeps_setDrive h

theorem keeps_watchLoss (h : Keeps s t) : Keeps s (watchLoss t) := by
  unfold watchLoss
  exact .ite h (.ite (.ite (keeps_loseEncoder h) (keeps_setDrive h)) (keeps_setDrive h))

theorem keeps_writeIf {set : Option Setting} (h : Keeps s t) : Keeps s (writeIf set t) := by
  unfold writeIf
  split
  · exact h
  · exact keeps_writeBridgeA h

theorem keeps_setDriveFlags (h : Keeps s t) : Keeps s (setDriveFlags t) := by
  unfold setDriveFlags
  exact .ite (keeps_setDrive h) (keeps_raiseEvent (keeps_setDrive h))

theorem keeps_cornerTick {isa : Nat} (h : Keeps s t) : Keeps s (cornerTick isa t) :=
  keeps_setDriveFlags (keeps_writeIf (keeps_setDrive (keeps_setDrive (keeps_watchLoss (keeps_setDrive h)))))

theorem answerKeeps_driveTick (isa : Nat) (s : State) : AnswerKeeps s (execDriveTick isa s) := by
  have timed {p : Pins} {d : Drive} : Keeps s ((s.setPins p).setDrive d) := keeps_setDrive (keeps_setPins (.refl s))
  unfold execDriveTick
  dsimp only
  split
  · exact .done (keeps_cornerTick timed)
  · exact .next (keeps_setDrive timed)
  · exact .next timed
  · exact .next timed

theorem keeps_countRecovery {dir : Direction} (h : Keeps s t) : Keeps s (countRecovery dir t) := by
  unfold countRecovery
  exact .ite (.ite (.ite (keeps_recoverEncoder h) (keeps_setDrive h)) (keeps_setDrive h)) h

theorem keeps_drumEdge {dir : Direction} (h : Keeps s t) : Keeps s (drumEdge dir t) := by
  unfold drumEdge
  exact .ite (keeps_endOperation (keeps_setWinch h)) (keeps_setWinch h)

theorem answerKeeps_encoderEdge (dir : Direction) (interval : Nat) (s : State) :
    AnswerKeeps s (execEncoderEdge dir interval s) := by
  unfold execEncoderEdge
  dsimp only
  split
  · exact .next (keeps_countRecovery (keeps_setDrive (.refl s)))
  · exact .done (keeps_drumEdge (keeps_setDrive (.refl s)))
  · exact .idle s
  · exact .idle s

theorem answerKeeps_encoderEdgeTimeout (s : State) : AnswerKeeps s (execEncoderEdgeTimeout s) :=
  .next (.ite (keeps_setDrive (.refl s)) (.refl s))

theorem answerKeeps_encoderLost (s : State) : AnswerKeeps s (execEncoderLost s) := by
  unfold execEncoderLost
  exact .ite (.done (keeps_loseEncoder (.refl s))) (.idle s)

theorem answerKeeps_encoderRecovered (s : State) : AnswerKeeps s (execEncoderRecovered s) :=
  .next (.ite (keeps_recoverEncoder (.refl s)) (.refl s))

theorem keeps_withdrawByTrips (h : Keeps s t) : Keeps s (withdrawByTrips t) :=
  keeps_addFault (keeps_withdrawA (keeps_setDrive h))

theorem keeps_tripA (h : Keeps s t) : Keeps s (tripA t) := by
  unfold tripA
  exact .ite (keeps_withdrawByTrips h)
    (keeps_addFault (keeps_setWinch (keeps_setDrive (keeps_forceBridgeA (keeps_zeroDrive h)))))

theorem answerKeeps_overcurrentTrip (current : Nat) (s : State) : AnswerKeeps s (execOvercurrentTrip current s) := by
  unfold execOvercurrentTrip
  exact .ite (.done (keeps_tripA (.refl s))) (.idle s)

theorem answerKeeps_tripWaitEnd (s : State) : AnswerKeeps s (execTripWaitEnd s) := .next (keeps_setDrive (.refl s))

theorem answerKeeps_pwmPeriodBoundary (s : State) : AnswerKeeps s (execPwmPeriodBoundary s) :=
  .next (keeps_setBridgeB (keeps_setBridgeA (.refl s)))

/-! ## The winch unit (spec 08) -/

theorem keeps_driveSolenoid {isb : Nat} (h : Keeps s t) : Keeps s (driveSolenoid isb t) := keeps_writeBridgeB (keeps_setWinch h)

theorem keeps_fromBraked {isb : Nat} (h : Keeps s t) : Keeps s (fromBraked isb t) := by
  unfold fromBraked
  dsimp only
  split
  · exact .ite (keeps_driveSolenoid (keeps_setDrum h)) h
  · exact .ite h (keeps_setWinch (keeps_setDrum h))

theorem keeps_drumLoop {dir : WinchDir} {isa : Nat} (h : Keeps s t) : Keeps s (drumLoop dir isa t) := by
  unfold drumLoop
  exact .ite (keeps_setWinch h) (keeps_writeBridgeA (keeps_setWinch h))

theorem keeps_watchDrum {isa : Nat} (h : Keeps s t) : Keeps s (watchDrum isa t) := by
  unfold watchDrum
  refine .ite ?_ (keeps_setWinch h)
  split
  · exact keeps_setWinch h
  · exact .ite (keeps_endOperation h) h

theorem keeps_setDrumTarget {dir : WinchDir} (h : Keeps s t) : Keeps s (setDrumTarget dir t) := keeps_setWinch h

theorem keeps_fromRunning {dir : WinchDir} {isa : Nat} (h : Keeps s t) : Keeps s (fromRunning dir isa t) := by
  have looped : Keeps s (drumLoop dir isa (setDrumTarget dir t)) := keeps_drumLoop (keeps_setDrumTarget h)
  unfold fromRunning
  exact .ite (.ite (keeps_watchDrum looped) looped) (keeps_endOperation h)

theorem keeps_engageEnd (h : Keeps s t) : Keeps s (engageEnd t) := by
  unfold engageEnd
  split
  · exact keeps_setDrum (keeps_closeOperation h)
  · exact .ite (keeps_setDrumTarget (keeps_setDrum (keeps_setWinch h))) (keeps_setDrum (keeps_closeOperation h))

theorem keeps_runEntered {isa : Nat} (h : Keeps s t) : Keeps s (runEntered isa t) := by
  unfold runEntered
  exact .ite (keeps_watchDrum (keeps_drumLoop h)) (.ite (keeps_drumLoop h) h)

theorem keeps_fromEngaging {isa : Nat} (h : Keeps s t) : Keeps s (fromEngaging isa t) := by
  unfold fromEngaging
  refine .ite (keeps_setDrum (keeps_closeOperation h)) ?_
  split
  · exact h
  · exact .ite (keeps_runEntered (keeps_engageEnd h)) h

theorem keeps_fromFreespool {isb : Nat} (h : Keeps s t) : Keeps s (fromFreespool isb t) := by
  unfold fromFreespool
  exact .ite (keeps_driveSolenoid h) (keeps_setDrum (keeps_offBridgeB h))

theorem keeps_fromBlocked {dir : WinchDir} (h : Keeps s t) : Keeps s (fromBlocked dir t) := by
  unfold fromBlocked
  exact .ite h (keeps_setDrum h)

theorem keeps_readControl {isa isb : Nat} (h : Keeps s t) : Keeps s (readControl isa isb t) := keeps_setWinch (keeps_setPins h)

theorem keeps_restDrum (h : Keeps s t) : Keeps s (restDrum t) := by
  unfold restDrum
  exact .ite h (keeps_writeBridgeA h)

theorem keeps_drumTick {isa isb : Nat} (h : Keeps s t) : Keeps s (drumTick isa isb t) := by
  unfold drumTick
  split
  · exact keeps_fromBraked (keeps_restDrum h)
  · exact keeps_fromEngaging (keeps_restDrum h)
  · exact keeps_fromRunning h
  · exact keeps_fromRunning h
  · exact keeps_fromBlocked (keeps_restDrum h)
  · exact keeps_fromBlocked (keeps_restDrum h)
  · exact keeps_fromBlocked (keeps_restDrum h)
  · exact keeps_fromFreespool (keeps_restDrum h)
  · exact keeps_restDrum h

theorem answerKeeps_controlTick (isa isb : Nat) (s : State) : AnswerKeeps s (execControlTick isa isb s) := by
  have read : Keeps s (readControl isa isb s) := keeps_readControl (.refl s)
  unfold execControlTick
  exact .ite (.ite (.done (keeps_drumTick read)) (.next (keeps_restDrum read))) (.next (keeps_setPins (.refl s)))

theorem keeps_acceptLimits {sw0 sw1 : Option SwitchLevel} (h : Keeps s t) : Keeps s (acceptLimits sw0 sw1 t) := by
  unfold acceptLimits
  exact .ite (keeps_endOperation (keeps_setWinch h)) (.ite (keeps_endOperation (keeps_setWinch h)) (keeps_setWinch h))

theorem answerKeeps_limitAcceptance (sw0 sw1 : Option SwitchLevel) (s : State) :
    AnswerKeeps s (execLimitAcceptance sw0 sw1 s) := by
  unfold execLimitAcceptance
  exact .ite (.done (keeps_acceptLimits (keeps_setPins (.refl s)))) (.next (keeps_setPins (.refl s)))

theorem answerKeeps_engageDelayEnd (s : State) : AnswerKeeps s (execEngageDelayEnd s) := by
  unfold execEngageDelayEnd
  exact .ite (.done (keeps_engageEnd (.refl s))) (.idle s)

theorem answerKeeps_winchStall (s : State) : AnswerKeeps s (execWinchStall s) := by
  unfold execWinchStall
  exact .ite (.done (keeps_endOperation (.refl s))) (.idle s)

theorem answerKeeps_winchTimerExpiry (s : State) : AnswerKeeps s (execWinchTimerExpiry s) :=
  .next (.ite (keeps_placeWinch (.refl s)) (.refl s))

/-! ## The output monitor (spec 10) -/

theorem keeps_setRecord {f : CheckRecord → CheckRecord} (h : Keeps s t) : Keeps s (setRecord f t) := keeps_setMonitor h

theorem keeps_failA {result : CheckResult} {st : CheckStep} (h : Keeps s t) : Keeps s (failA result st t) :=
  keeps_completeStep (keeps_withdrawA (keeps_addFault (keeps_setRecord h)))

theorem keeps_restorePrior {st : CheckStep} (h : Keeps s t) : Keeps s (restorePrior st t) := by
  unfold restorePrior
  exact .ite (.ite (keeps_setSteer h) (keeps_raiseEvent (keeps_setSteer h))) h

theorem keeps_failB {result : CheckResult} {st : CheckStep} (h : Keeps s t) : Keeps s (failB result st t) :=
  keeps_completeStep (keeps_withdrawB (keeps_addFault (keeps_setRecord (keeps_restorePrior h))))

theorem keeps_passA (h : Keeps s t) : Keeps s (passA t) := keeps_completeStep (keeps_setRecord h)

theorem keeps_passB (h : Keeps s t) : Keeps s (passB t) := keeps_completeStep (keeps_setRecord h)

theorem answerKeeps_supplyTestRetry (vpack : Int) (s : State) : AnswerKeeps s (execSupplyTestRetry vpack s) := by
  unfold execSupplyTestRetry
  exact .ite (.ite (.done (keeps_completeStep (keeps_setPins (.refl s))))
    (.next (keeps_setMonitor (keeps_setPins (.refl s))))) (.idle s)

theorem answerKeeps_pullTestEnd (out vpack : Int) (s : State) : AnswerKeeps s (execPullTestEnd out vpack s) := by
  have read {p : Pins} : Keeps s (s.setPins p) := keeps_setPins (.refl s)
  unfold execPullTestEnd
  split
  · exact .done (.ite (keeps_failA read) (keeps_completeStep read))
  · exact .done (.ite (keeps_failA read) (keeps_completeStep read))
  · exact .done (.ite (keeps_failB read) (keeps_completeStep read))
  · exact .done (.ite (keeps_failB read) (keeps_completeStep read))
  · exact .idle s

theorem answerKeeps_loadPulseEnd (current : Nat) (s : State) : AnswerKeeps s (execLoadPulseEnd current s) := by
  unfold execLoadPulseEnd
  dsimp only
  split
  · exact .ite (.idle s) (.done (.ite (keeps_passA (.refl s)) (keeps_failA (.refl s))))
  · exact .ite (.idle s) (.done (.ite (keeps_passB (.refl s)) (keeps_failB (.refl s))))
  · exact .idle s

theorem answerKeeps_loadPulseTrip (current : Nat) (s : State) : AnswerKeeps s (execLoadPulseTrip current s) := by
  unfold execLoadPulseTrip
  split
  · exact .ite (.done (keeps_failA (.refl s))) (.idle s)
  · exact .ite (.done (keeps_failB (.refl s))) (.idle s)
  · exact .idle s

theorem keeps_setLampResult {l : Lamp} {result : CheckResult} (h : Keeps s t) : Keeps s (setLampResult l result t) :=
  keeps_setRecord h

theorem answerKeeps_lampPresenceTestEnd (pin vpack : Int) (s : State) :
    AnswerKeeps s (execLampPresenceTestEnd pin vpack s) := by
  have read {p : Pins} : Keeps s (s.setPins p) := keeps_setPins (.refl s)
  unfold execLampPresenceTestEnd
  split
  · exact .ite (.next (keeps_beginStep read)) (.done (keeps_completeStep (keeps_setMonitor (keeps_setLampResult read))))
  · exact .idle s

theorem answerKeeps_lampRatingEnd (mean : Nat) (s : State) : AnswerKeeps s (execLampRatingEnd mean s) := by
  unfold execLampRatingEnd
  split
  · exact .done (keeps_completeStep (keeps_setMonitor (keeps_setLampResult (.refl s))))
  · exact .idle s

theorem answerKeeps_lampRatingShort (current : Nat) (s : State) : AnswerKeeps s (execLampRatingShort current s) := by
  unfold execLampRatingShort
  split
  · exact .ite (.done (keeps_completeStep (keeps_withdrawLamp (keeps_setLampResult (.refl s))))) (.idle s)
  · exact .idle s

theorem keeps_judgePair {left right : Nat} (h : Keeps s t) : Keeps s (judgePair left right t) := by
  unfold judgePair
  exact .ite (keeps_beginStep (keeps_setRecord (keeps_setSteer
    (.ite (keeps_raiseEvent (keeps_setMonitor h)) (keeps_setMonitor h))))) (keeps_failB h)

theorem answerKeeps_sweepStopFound (pot : Nat) (s : State) : AnswerKeeps s (execSweepStopFound pot s) := by
  have read {p : Pins} : Keeps s (s.setPins p) := keeps_setPins (.refl s)
  unfold execSweepStopFound
  dsimp only
  split
  · exact .next (keeps_beginStep (keeps_setMonitor read))
  · exact .done (keeps_judgePair read)
  · exact .idle s

theorem answerKeeps_sweepPhaseTimeout (s : State) : AnswerKeeps s (execSweepPhaseTimeout s) := by
  unfold execSweepPhaseTimeout
  split
  · exact .done (keeps_failB (.refl s))
  · exact .done (keeps_failB (.refl s))
  · exact .idle s

theorem answerKeeps_sweepFault (s : State) : AnswerKeeps s (execSweepFault s) := by
  unfold execSweepFault
  split
  · exact .done (keeps_failB (.refl s))
  · exact .idle s

theorem answerKeeps_sweepReturnEnd (s : State) : AnswerKeeps s (execSweepReturnEnd s) := by
  unfold execSweepReturnEnd
  split
  · exact .done (keeps_completeStep (keeps_forceBridgeB (.refl s)))
  · exact .idle s

theorem keeps_dipSequence (h : Keeps s t) : Keeps s (dipSequence t) := keeps_setMonitor (keeps_restBridges h)

theorem answerKeeps_supplyDip (vpack : Int) (s : State) : AnswerKeeps s (execSupplyDip vpack s) := by
  unfold execSupplyDip
  exact .ite (.next (keeps_dipSequence (keeps_setPins (.refl s)))) (.idle s)

theorem keeps_checkThermal {before : ThermalClass} (h : Keeps s t) : Keeps s (checkThermal before t) := by
  unfold checkThermal
  split
  · exact h
  · exact .ite (keeps_setMonitor (keeps_setRecord (keeps_restBridges h)))
      (.ite (.ite (keeps_completeStep h) (keeps_beginStep h)) h)

theorem keeps_thermalChange {before : ThermalClass} (h : Keeps s t) : Keeps s (thermalChange before t) :=
  keeps_checkThermal (keeps_thermalEffects h)

theorem keeps_tripB (h : Keeps s t) : Keeps s (tripB t) := by
  have off {x : Monitor} (hx : x.faults = t.monitor.faults) : Keeps s ((offBridgeB t).setMonitor x) :=
    keeps_setMonitor (keeps_offBridgeB h) hx
  unfold tripB
  exact .ite (keeps_addFault (keeps_withdrawB (.ite (keeps_setDrum (off rfl)) (off rfl))))
    (keeps_addFault (.ite (keeps_setDrum (off rfl)) (off rfl)))

theorem answerKeeps_bridgeBTrip (current : Nat) (s : State) : AnswerKeeps s (execBridgeBTrip current s) := by
  unfold execBridgeBTrip
  exact .ite (.done (keeps_tripB (.refl s))) (.idle s)

theorem answerKeeps_bridgeBTripWaitEnd (s : State) : AnswerKeeps s (execBridgeBTripWaitEnd s) :=
  .next (keeps_setMonitor (.refl s))

theorem keeps_readSensor {x : Sensor} {reading : Int} (h : Keeps s t) : Keeps s (readSensor x reading t) := by
  unfold readSensor
  exact .ite (.ite (keeps_setSensor h) (.ite (keeps_failSensor h) (keeps_setSensor h))) (keeps_setSensor h)

theorem answerKeeps_temperatureReading (ts1 die : Int) (s : State) : AnswerKeeps s (execTemperatureReading ts1 die s) :=
  .done (keeps_thermalChange (keeps_setMonitor (keeps_readSensor (keeps_readSensor (keeps_setPins (.refl s))))))

theorem answerKeeps_thermalSensorFault (x : Sensor) (reading : Int) (s : State) :
    AnswerKeeps s (execThermalSensorFault x reading s) := by
  unfold execThermalSensorFault
  exact .ite (.done (keeps_thermalChange (keeps_failSensor (.refl s)))) (.idle s)

/-! ## The clock and the step -/

theorem ageAll_slot (k : TxKind) (s : State) : (ageAll s).bus.slots.get k = ageSlot (s.bus.slots.get k) := by
  cases k <;> rfl

theorem ageAll_stations (s : State) :
    (ageAll s).peers.table.map PeerEntry.station = s.peers.table.map PeerEntry.station := by
  simp [ageAll, agePeers, Function.comp_def]

/-- A millisecond ages backoffs and peer entries, and moves no frame and no station (log 1). -/
theorem keeps_clockTick (s : State) : Keeps s (clockTick s) := by
  refine keeps_setPending (t := ageAll s) ⟨fun b => { b with }, fun x => ⟨fun k => ?_, fun k hk => ?_⟩,
    fun p => peerInv_of_stations p (ageAll_stations s ▸ List.Sublist.refl _)⟩
  · rw [ageAll_slot]
    exact slotInv_age (x.slots k)
  · rw [ageAll_slot]
    simpa [ageSlot] using x.onLine k hk

/-- Every command keeps the invariants of O9 and O10. -/
theorem answerKeeps_exec (c : Instr) (s : State) : AnswerKeeps s (exec c s) := by
  cases c with
  | powerOnReset => exact answerKeeps_powerOnReset s
  | busIdle => exact answerKeeps_busIdle s
  | frameReceived bytes => exact answerKeeps_frameReceived bytes s
  | receptionFailed how => exact answerKeeps_receptionFailed how s
  | breakRecognised => exact answerKeeps_breakRecognised s
  | attemptStart => exact answerKeeps_attemptStart s
  | arbitrationLost => exact answerKeeps_arbitrationLost s
  | lineFault => exact answerKeeps_lineFault s
  | collision => exact answerKeeps_collision s
  | backoffExpiry kind => exact answerKeeps_backoffExpiry kind s
  | attemptComplete => exact answerKeeps_attemptComplete s
  | breakEnd => exact answerKeeps_breakEnd s
  | strapReadSuccess p => exact answerKeeps_strapReadSuccess p s
  | strapReadFail last => exact answerKeeps_strapReadFail last s
  | silenceTimerExpiry => exact answerKeeps_silenceTimerExpiry s
  | defaultTimerExpiry => exact answerKeeps_defaultTimerExpiry s
  | config => exact answerKeeps_config s
  | assign => exact answerKeeps_assign s
  | ownStationFrame => exact answerKeeps_ownStationFrame s
  | conflictNoticeTimer => exact answerKeeps_conflictNoticeTimer s
  | uptimeTick => exact answerKeeps_uptimeTick s
  | reportTimerExpiry => exact answerKeeps_reportTimerExpiry s
  | heldEventSpacingExpiry => exact answerKeeps_heldEventSpacingExpiry s
  | report => exact answerKeeps_report s
  | peerLost station => exact answerKeeps_peerLost station s
  | winch => exact answerKeeps_winch s
  | winchLinkExpiry => exact answerKeeps_winchLinkExpiry s
  | checkRecord => exact answerKeeps_answerOk s
  | fault => exact answerKeeps_fault s
  | winchLog => exact answerKeeps_winchLog s
  | counters => exact answerKeeps_answerOk s
  | image => exact answerKeeps_answerOk s
  | budget => exact answerKeeps_answerOk s
  | restart => exact answerKeeps_restart s
  | recheck => exact answerKeeps_recheck s
  | queryUnknownCode => exact answerKeeps_queryUnknownCode s
  | command => exact answerKeeps_command s
  | linkExpiry => exact answerKeeps_linkExpiry s
  | failsafeStage2 => exact answerKeeps_failsafeStage2 s
  | budgetTick r => exact answerKeeps_budgetTick r s
  | peerCutoffTest => exact answerKeeps_peerCutoffTest s
  | actuatorTick pot isb => exact answerKeeps_actuatorTick pot isb s
  | steerStall => exact answerKeeps_steerStall s
  | stallLimitEnd => exact answerKeeps_stallLimitEnd s
  | steerSensorLost pot => exact answerKeeps_steerSensorLost pot s
  | driveTick isa => exact answerKeeps_driveTick isa s
  | encoderEdge dir interval => exact answerKeeps_encoderEdge dir interval s
  | encoderEdgeTimeout => exact answerKeeps_encoderEdgeTimeout s
  | encoderLost => exact answerKeeps_encoderLost s
  | encoderRecovered => exact answerKeeps_encoderRecovered s
  | overcurrentTrip current => exact answerKeeps_overcurrentTrip current s
  | tripWaitEnd => exact answerKeeps_tripWaitEnd s
  | controlTick isa isb => exact answerKeeps_controlTick isa isb s
  | limitAcceptance sw0 sw1 => exact answerKeeps_limitAcceptance sw0 sw1 s
  | engageDelayEnd => exact answerKeeps_engageDelayEnd s
  | winchStall => exact answerKeeps_winchStall s
  | winchTimerExpiry => exact answerKeeps_winchTimerExpiry s
  | beatEvent => exact answerKeeps_beatEvent s
  | beatTaken => exact answerKeeps_beatTaken s
  | lampShort l current => exact answerKeeps_lampShort l current s
  | supplyTestRetry vpack => exact answerKeeps_supplyTestRetry vpack s
  | pullTestEnd out vpack => exact answerKeeps_pullTestEnd out vpack s
  | loadPulseEnd current => exact answerKeeps_loadPulseEnd current s
  | loadPulseTrip current => exact answerKeeps_loadPulseTrip current s
  | lampPresenceTestEnd pin vpack => exact answerKeeps_lampPresenceTestEnd pin vpack s
  | lampRatingEnd mean => exact answerKeeps_lampRatingEnd mean s
  | lampRatingShort current => exact answerKeeps_lampRatingShort current s
  | sweepStopFound pot => exact answerKeeps_sweepStopFound pot s
  | sweepPhaseTimeout => exact answerKeeps_sweepPhaseTimeout s
  | sweepFault => exact answerKeeps_sweepFault s
  | sweepReturnEnd => exact answerKeeps_sweepReturnEnd s
  | supplyDip vpack => exact answerKeeps_supplyDip vpack s
  | bridgeBTrip current => exact answerKeeps_bridgeBTrip current s
  | bridgeBTripWaitEnd => exact answerKeeps_bridgeBTripWaitEnd s
  | temperatureReading ts1 die => exact answerKeeps_temperatureReading ts1 die s
  | thermalSensorFault x reading => exact answerKeeps_thermalSensorFault x reading s
  | frameStart => exact answerKeeps_frameStart s
  | pwmPeriodBoundary => exact answerKeeps_pwmPeriodBoundary s

theorem keeps_step (h : step s = .next t) : Keeps s t := by
  unfold step at h
  split at h
  · cases h
    exact keeps_clockTick s
  next c rest _ => exact (keeps_setPending (.refl s)).trans (answerKeeps_exec c (s.setPending rest) t h)

/-! ## The obligations -/

/-- Settles O9: every step keeps the bounds and the transmit set, command by command. -/
theorem stepKeepsBoundsAndSlots : Obligations.StepKeepsBoundsAndSlots :=
  ⟨fun _ _ inv h => (keeps_step h).bounds inv, fun _ _ inv h => (keeps_step h).transmit inv⟩

/-- Settles O10: every step keeps the queue's marks and the peer table, command by command. -/
theorem stepKeepsPeerTable : Obligations.StepKeepsPeerTable := fun _ _ inv h => (keeps_step h).peers inv

end Sys2Proof.TrailBus
end

section
/-! The frame on the trail bus (spec 01, 1.1): its checks and its CRC (O13, O14), and its levels on the line (O15). -/

namespace Sys2Proof.TrailBus

open Sys2Proof Sys2Proof.Machine Sys2Proof.Safety

set_option Elab.async false

/-! ## The checks of a complete frame (R5, R8) -/

/-- A frame of its own length is checked by CRC, then by kind and sender (Table 1-4). -/
theorem judgeFrame_of_length {h l crc : Byte} {payload : List Byte} (fits : payload.length = l.toNat) (short : l.toNat ≤ 12) :
    judgeFrame (h :: l :: (payload ++ [crc])) =
      if crc8 (h :: l :: payload) ≠ crc then .crcError else judgeHeader h payload := by
  have whole : ¬ (12 < l.toNat ∨ (payload ++ [crc]).length ≠ l.toNat + 1) := by simp [fits, short]
  have body : (payload ++ [crc]).take l.toNat = payload := by simp [← fits]
  have last : (payload ++ [crc]).getLastD 0#8 = crc := by simp [List.getLastD_eq_getLast?]
  simp only [judgeFrame, if_neg whole, body, last]

theorem judgeFrame_of_wrong_length {h l : Byte} {rest : List Byte} (wrong : 12 < l.toNat ∨ rest.length ≠ l.toNat + 1) :
    judgeFrame (h :: l :: rest) = .formatError := by
  simp only [judgeFrame, if_pos wrong]

/-! ## The header (Table 11-1) -/

theorem kindOfCode_kindCode (kind : FrameKind) : kindOfCode (kindCode kind) = some kind := by
  cases kind <;> rfl

theorem kindCode_lt (kind : FrameKind) : kindCode kind < 8 := by
  cases kind <;> decide

theorem sender_lt_of_allowed {kind : FrameKind} {sender : Nat} (h : senderAllowed kind sender = true) : sender < 16 := by
  cases kind <;> simp [senderAllowed] at h <;> omega

theorem headerByte_toNat {kind : FrameKind} {sender : Nat} (h : sender < 16) :
    (headerByte kind sender).toNat = kindCode kind * 16 + sender := by
  have code := kindCode_lt kind
  simp only [headerByte, nibbles, byteOf, BitVec.toNat_ofNat]
  omega

/-- The header as sent is read back. -/
theorem judgeHeader_headerByte {kind : FrameKind} {sender : Nat} {payload : List Byte}
    (allowed : senderAllowed kind sender = true) :
    judgeHeader (headerByte kind sender) payload = .valid kind sender payload := by
  have small := sender_lt_of_allowed allowed
  have hi : hiNibble (headerByte kind sender) = kindCode kind := by
    simp only [hiNibble, headerByte_toNat small]
    omega
  have lo : loNibble (headerByte kind sender) = sender := by
    simp only [loNibble, headerByte_toNat small]
    omega
  simp [judgeHeader, hi, lo, kindOfCode_kindCode, allowed]

/-- Settles O13: the frame has its own length and CRC, and its header is read back. -/
theorem frameRoundTrip : Obligations.FrameRoundTrip := by
  intro kind sender payload short allowed
  have length : (byteOf payload.length).toNat = payload.length := by
    simp only [byteOf, BitVec.toNat_ofNat]
    omega
  calc judgeFrame (frameBytes kind sender payload)
      = if crc8 (headerByte kind sender :: byteOf payload.length :: payload) ≠
          crc8 (headerByte kind sender :: byteOf payload.length :: payload) then .crcError
        else judgeHeader (headerByte kind sender) payload := judgeFrame_of_length length.symm (by omega)
    _ = judgeHeader (headerByte kind sender) payload := if_neg (not_not.2 rfl)
    _ = .valid kind sender payload := judgeHeader_headerByte allowed

/-! ## The CRC (R4) -/

theorem crcBit_eq (reg : Byte) (bit : Bool) :
    crcBit reg bit = reg <<< 1 ^^^ (if reg.getLsbD 7 ^^ bit then 0x1D#8 else 0#8) := by
  rw [crcBit, Bool.bne_eq_xor]
  cases reg.getLsbD 7 ^^ bit
  · exact (BitVec.xor_zero).symm
  · rfl

/-- A step of the register is linear: what is added to it, the step shifts out into the data bit. -/
theorem crcBit_xor (reg x : Byte) (bit : Bool) : crcBit (reg ^^^ x) bit = crcBit reg (x.getLsbD 7 ^^ bit) ^^^ (x <<< 1) := by
  rw [crcBit_eq, crcBit_eq, BitVec.getLsbD_xor, BitVec.shiftLeft_xor_distrib, Bool.xor_assoc]
  ac_rfl

/-- A step of the register on one data bit loses nothing: the generator's low bit tells what was shifted out. -/
theorem crcBit_injective (bit : Bool) : Function.Injective (crcBit · bit) := by
  intro r r' same
  have bits (x : Byte) (i : Nat) : (crcBit x bit).getLsbD i =
      ((decide (i < 8) && !decide (i < 1) && x.getLsbD (i - 1)) ^^ ((x.getLsbD 7 ^^ bit) && (0x1D#8).getLsbD i)) := by
    rw [crcBit_eq, BitVec.getLsbD_xor, BitVec.getLsbD_shiftLeft]
    cases x.getLsbD 7 ^^ bit <;> simp
  have top : r.getLsbD 7 = r'.getLsbD 7 := by
    have low : (crcBit r bit).getLsbD 0 = (crcBit r' bit).getLsbD 0 := congrArg (BitVec.getLsbD · 0) same
    rw [bits, bits] at low
    simpa using low
  apply BitVec.eq_of_getLsbD_eq
  intro i hi
  rcases Nat.lt_or_ge i 7 with h7 | h7
  · have next : (crcBit r bit).getLsbD (i + 1) = (crcBit r' bit).getLsbD (i + 1) :=
      congrArg (BitVec.getLsbD · (i + 1)) same
    have room : i + 1 < 8 := by omega
    rw [bits, bits, top] at next
    simpa [room] using next
  · have seven : i = 7 := by omega
    rw [seven, top]

/-- A byte of data enters the register as if it had been added to it. -/
theorem crcByte_eq_xor (reg b : Byte) : crcByte reg b = crcByte (reg ^^^ b) 0#8 := by
  have zero (i : Nat) : (0#8 : Byte).getLsbD i = false := BitVec.getLsbD_zero
  have out : b <<< 8 = 0#8 := BitVec.shiftLeft_eq_zero (Nat.le_refl 8)
  simp only [crcByte, byteBits, List.foldl, zero, crcBit_xor, Bool.xor_false, BitVec.getLsbD_shiftLeft,
    ← BitVec.shiftLeft_add]
  simp [out]

theorem foldl_crcBit_injective (bits : List Bool) : Function.Injective (bits.foldl crcBit) := by
  induction bits with
  | nil => exact fun _ _ => id
  | cons b bs ih => exact fun _ _ same => crcBit_injective b (ih same)

theorem crcByte_injective (b : Byte) : Function.Injective (crcByte · b) := foldl_crcBit_injective (byteBits b)

theorem crcByte_data_injective (reg : Byte) : Function.Injective (crcByte reg) := by
  intro x y same
  rw [crcByte_eq_xor reg x, crcByte_eq_xor reg y] at same
  exact (BitVec.xor_right_inj reg).1 (crcByte_injective 0#8 same)

theorem foldl_crcByte_injective (bytes : List Byte) : Function.Injective (bytes.foldl crcByte) := by
  induction bytes with
  | nil => exact fun _ _ => id
  | cons b bs ih => exact fun _ _ same => crcByte_injective b (ih same)

/-- Settles O14: the checks follow Table 1-4, and from the byte that differs on the registers differ. -/
theorem frameChecksAndCrc : Obligations.FrameChecksAndCrc := by
  refine ⟨⟨fun h l crc payload fits short => ?_, fun h l rest wrong => judgeFrame_of_wrong_length wrong⟩,
    fun before after x y differ same => ?_, by decide +kernel⟩
  · rw [judgeFrame_of_length fits short]
    split
    · rfl
    · rfl
  · simp only [crc8, List.foldl_append, List.foldl_cons] at same
    exact differ (crcByte_data_injective _ (foldl_crcByte_injective after same))

/-! ## The levels on the line (R2, R3) -/

theorem byteLine_length (b : Byte) : (byteLine b).length = 10 := rfl

theorem frameLine_nil : frameLine [] = [.recessive, .recessive] := rfl

theorem frameLine_cons (b : Byte) (bytes : List Byte) : frameLine (b :: bytes) = byteLine b ++ frameLine bytes := by
  simp [frameLine]

theorem frameLine_length (bytes : List Byte) : (frameLine bytes).length = 10 * bytes.length + 2 := by
  induction bytes with
  | nil => rfl
  | cons b bytes ih =>
    rw [frameLine_cons, List.length_append, byteLine_length, ih, List.length_cons]
    omega

theorem frameBytes_length (kind : FrameKind) (sender : Nat) (payload : List Byte) :
    (frameBytes kind sender payload).length = payload.length + 3 := by
  simp [frameBytes]

/-- Each tenth bit time, the place of the stop bits, is recessive, or past the frame. -/
theorem frameLine_stopBit (bytes : List Byte) (n : Nat) : (frameLine bytes)[10 * n + 9]? ≠ some .dominant := by
  induction bytes generalizing n with
  | nil => simp [frameLine_nil]
  | cons b bytes ih =>
    rw [frameLine_cons]
    cases n with
    | zero => simp [byteLine, byteBits]
    | succ n =>
      have behind : 10 * (n + 1) + 9 = (byteLine b).length + (10 * n + 9) := by rw [byteLine_length]; omega
      rw [behind, List.getElem?_append_right (Nat.le_add_right _ _), Nat.add_sub_cancel_left]
      exact ih n

/-- Ten bit times in a row hold the place of a stop bit. -/
theorem not_ten_dominant (bytes : List Byte) : ¬ List.replicate 10 LineLevel.dominant <:+: frameLine bytes := by
  rintro ⟨before, after, split⟩
  have run (i : Nat) (hi : i < 10) : (frameLine bytes)[before.length + i]? = some .dominant := by
    rw [← split, List.append_assoc, List.getElem?_append_right (Nat.le_add_right _ _), Nat.add_sub_cancel_left,
      List.getElem?_append_left (by simpa using hi), List.getElem?_replicate, if_pos hi]
  have place : before.length + (9 - before.length % 10) = 10 * (before.length / 10) + 9 := by omega
  exact frameLine_stopBit bytes (before.length / 10) (place ▸ run _ (by omega))

theorem byteLine_bit (b : Byte) (i : Nat) (hi : i < 8) :
    (byteLine b)[i + 1]? = some (if b.getLsbD (7 - i) then .recessive else .dominant) := by
  interval_cases i <;> rfl

/-- Settles O15: a byte is ten bit times, the frame its bytes and two end bits, and each tenth bit time is recessive. -/
theorem frameOnTheLine : Obligations.FrameOnTheLine := by
  refine ⟨fun b => ⟨byteLine_length b, rfl, rfl, byteLine_bit b⟩, fun kind sender payload => ?_, not_ten_dominant⟩
  rw [frameLine_length, frameBytes_length]

end Sys2Proof.TrailBus
end

section
/-! The receiver and the transmit set (spec 01, 1.3 to 1.5): O8 and O16 to O21. -/

namespace Sys2Proof.TrailBus

open Sys2Proof Sys2Proof.Machine Sys2Proof.Safety

set_option Elab.async false

/-! ## The reset state -/

theorem outputsInv_reset : OutputsInv State.reset where
  stepInCheck := nofun
  holdSafe _ h := nomatch h
  nextA := nofun
  activeA := nofun
  nextB h := absurd rfl h
  activeB h := absurd rfl h

/-- Settles O8: each field of each invariant holds of the reset values (log 5). -/
theorem resetMeetsTheInvariants : Obligations.ResetMeetsTheInvariants := by
  have noImage : State.reset.node.image = none := rfl
  refine ⟨outputsInv_reset, fun h => absurd h (by decide), boundsInv_reset, transmitInv_reset, peerInv_reset, ?allowance,
    ?command, ?duty, ?steer, fun _ h => nomatch noImage.symm.trans h⟩
  case allowance => exact ⟨by decide, by decide, fun _ => rfl⟩
  case command => exact ⟨⟨by decide, by decide⟩, ⟨by decide, by decide⟩, ⟨by decide, by decide⟩⟩
  case duty =>
    exact ⟨by decide, by decide, by decide, by decide, by decide, by decide, by decide, by decide, ⟨by decide, by decide⟩,
      ⟨by decide, by decide⟩⟩
  case steer => exact ⟨by decide, by decide, by decide, fun _ => ⟨rfl, rfl, rfl⟩, fun _ => rfl, fun _ => .inl rfl⟩

/-! ## The receiver (R6 to R10) -/

/-- What a failed reception leaves of the receiver (Table 1-3). -/
theorem execReceptionFailed_of_frame (how : RxFail) (s : State) (frame : s.bus.rx.state = .frame) :
    execReceptionFailed how s = .next { s with bus := { s.bus with
      rx := { s.bus.rx with
        state := .hunt, exempt := false, echo := false, recessiveRun := recessiveAfter how
        dominantRun := if failsDominant how then 1 else 0 }
      counters := if exemptNow how s then s.bus.counters else (countFailure how s).bus.counters } } := by
  simp only [execReceptionFailed, if_pos frame, countUnless]
  cases exemptNow how s
  · cases how <;> rfl
  · rfl

/-- The counter of a failing row, by the two kinds of failure. -/
theorem countFailure_counters (how : RxFail) (s : State) : (countFailure how s).bus.counters =
    if how = .startPayloadOrCrc ∨ how = .lengthAbove12 then
      { s.bus.counters with formatErrors := min 255 (s.bus.counters.formatErrors + 1) }
    else { s.bus.counters with framingErrors := min 255 (s.bus.counters.framingErrors + 1) } := by
  simp only [← bumpTo_eq_min]
  cases how <;> rfl

theorem exemptNow_iff (how : RxFail) (s : State) :
    exemptNow how s = true ↔ s.bus.rx.exempt = true ∨ (s.bus.tx.attempt ≠ none ∧ how ≠ .headerStopBit) := by
  have aborts : failAborts how = true ↔ how ≠ .headerStopBit := by cases how <;> decide
  rw [exemptNow, Bool.or_eq_true, Bool.and_eq_true, aborts, ← Option.isSome_iff_ne_none]

/-- Settles O16: the runs and marks by row, the counter by the failing row unless the reception is exempt. -/
theorem receptionsStartAndFail : Obligations.ReceptionsStartAndFail := by
  refine ⟨fun s => ⟨_, rfl, rfl⟩, fun s => ⟨_, rfl, rfl⟩, fun how s => ?_⟩
  by_cases frame : s.bus.rx.state = .frame
  · refine ⟨_, execReceptionFailed_of_frame how s frame, ?_⟩
    rw [if_pos frame]
    refine ⟨?_, ?_⟩
    · cases how <;> rfl
    · simp only [← exemptNow_iff, countFailure_counters]
  · exact ⟨s, if_neg frame, by rw [if_neg frame]⟩

/-- A failed check is counted, unless the reception is exempt (R8). -/
theorem countUnless_countBus (exempt : Bool) (f : BusCounters → BusCounters) (s : State) :
    countUnless exempt (countBus f) s =
      s.setBus { s.bus with counters := if exempt then s.bus.counters else f s.bus.counters } := by
  cases exempt <;> rfl

/-- The first cases of R9 that match discard a valid frame. -/
theorem disposeFrame_discards {echo : Bool} {kind : FrameKind} {sender : Nat} {payload : List Byte} {s : State}
    (h : s.node.state = .strap ∨ echo = true ∨ kind = .answer) : disposeFrame echo kind sender payload s = s := by
  unfold disposeFrame
  split
  · rfl
  · split
    · rfl
    · rw [if_pos (by tauto)]

theorem disposeFrame_enqueues {echo : Bool} {kind : FrameKind} {sender : Nat} {payload : List Byte} {s : State}
    (h : ¬ (s.node.state = .strap ∨ echo = true ∨ kind = .answer)) : disposeFrame echo kind sender payload s =
      enqueue { kind, sender, payload, own := decide (stationOf s = some sender) } s := by
  simp only [not_or] at h
  obtain ⟨strap, heard, answer⟩ := h
  rw [disposeFrame, if_neg strap, if_neg heard, if_neg answer]

theorem enqueue_of_room {f : RxFrame} {s : State} (room : s.bus.queue.length < 8) :
    enqueue f s = s.setBus { s.bus with queue := s.bus.queue ++ [f] } := if_pos room

theorem enqueue_of_full {f : RxFrame} {s : State} (full : ¬ s.bus.queue.length < 8) : enqueue f s = countOverrun s :=
  if_neg full

/-- Settles O17: the receiver goes to READY, then the verdict of the checks decides (R7 to R10). -/
theorem receivedFrameIsDisposedOf : Obligations.ReceivedFrameIsDisposedOf := by
  intro bytes s
  by_cases frame : s.bus.rx.state = .frame
  case neg => exact ⟨s, if_neg frame, by rw [if_neg frame]⟩
  simp only [exec, execFrameReceived, if_pos frame, ← bumpTo_eq_min]
  cases judgeFrame bytes with
  | formatError => exact ⟨_, congrArg Host.Outcome.next (countUnless_countBus _ _ _), rfl, rfl, rfl⟩
  | crcError => exact ⟨_, congrArg Host.Outcome.next (countUnless_countBus _ _ _), rfl, rfl, rfl⟩
  | valid kind sender payload =>
    dsimp only
    have cases_eq : (s.node.state = .strap ∨ (s.bus.rx.echo || s.bus.tx.attempt.isSome) = true ∨ kind = .answer) ↔
        (s.node.state = .strap ∨ s.bus.rx.echo = true ∨ s.bus.tx.attempt ≠ none ∨ kind = .answer) := by
      rw [Bool.or_eq_true, ← Option.isSome_iff_ne_none, or_assoc]
    by_cases discards : s.node.state = .strap ∨ s.bus.rx.echo = true ∨ s.bus.tx.attempt ≠ none ∨ kind = .answer
    · refine ⟨_, congrArg Host.Outcome.next (disposeFrame_discards (cases_eq.2 discards)), rfl, ?_⟩
      rw [if_pos discards]
      exact ⟨rfl, rfl⟩
    · have queued {x : Receiver} := disposeFrame_enqueues (s := setRx x s) (sender := sender) (payload := payload)
        (mt cases_eq.1 discards)
      by_cases room : s.bus.queue.length < 8
      · refine ⟨_, congrArg Host.Outcome.next (queued.trans (enqueue_of_room room)), rfl, ?_⟩
        rw [if_neg discards, if_pos room]
        exact ⟨rfl, rfl⟩
      · refine ⟨_, congrArg Host.Outcome.next (queued.trans (enqueue_of_full room)), rfl, ?_⟩
        rw [if_neg discards, if_neg room]
        exact ⟨rfl, rfl⟩

end Sys2Proof.TrailBus
end

section
/-! The transmit set (spec 01, 1.5): placements, attempts and how they end (O18 to O21). -/

namespace Sys2Proof.TrailBus

open Sys2Proof Sys2Proof.Machine Sys2Proof.Safety

set_option Elab.async false

/-! ## Withdrawals and RESTART (R14, R22) -/

theorem withdraw_of_empty {onLine : Bool} {sl : Slot} (hh : sl.held = none) : sl.withdraw onLine = sl := by
  simp only [Slot.withdraw, hh]

theorem withdraw_of_committed {onLine : Bool} {sl : Slot} {h : Held} (hh : sl.held = some h) (hc : h.committed = true) :
    sl.withdraw onLine = { sl with next := none } := by
  simp only [Slot.withdraw, hh, if_pos hc]

theorem withdraw_of_pending {onLine : Bool} {sl : Slot} {h : Held} (hh : sl.held = some h) (hc : h.committed = false) :
    sl.withdraw onLine = if onLine then { sl with withdrawDue := true } else Slot.empty := by
  simp only [Slot.withdraw, hh, hc, Bool.false_eq_true, if_false]

/-- Settles O18: each operation on a slot goes by whether a frame is held, committed and on the line. -/
theorem placementFollowsTheSlotState : Obligations.PlacementFollowsTheSlotState := by
  refine ⟨fun onLine f sl => ⟨Slot.place_empty onLine f sl, fun h hh hc off => ?_, fun h hh behind => ?_⟩,
    fun onLine sl _ => ⟨withdraw_of_empty, fun h => withdraw_of_committed, fun h hh hc on => ?_, fun h hh hc off => ?_,
      fun off => ?_, fun on => ?_, ?_⟩⟩
  · subst off
    exact Slot.place_pending f sl h hh hc
  · exact Slot.place_behind onLine f sl h hh (Bool.or_eq_true _ _ ▸ behind)
  · rw [withdraw_of_pending hh hc, if_pos on]
  · subst off
    exact withdraw_of_pending hh hc
  · subst off
    rfl
  · subst on
    rfl
  · cases onLine <;> rfl

/-! ## The start of an attempt (R15) -/

theorem slotEligible_eq (sl : Slot) : slotEligible sl = sl.held.any fun h => h.backoff.isNone := by
  unfold slotEligible
  cases sl.held <;> rfl

/-- The lowest kind code comes first (R15). -/
theorem nextEligible_eq_find (x : Slots) :
    nextEligible x = [TxKind.winch, .report, .beat, .answer].find? fun k => slotEligible (x.get k) := by
  have front (p : TxKind → Bool) (k : TxKind) (rest : List TxKind) :
      (k :: rest).find? p = if p k then some k else rest.find? p := by
    rw [List.find?_cons]
    cases p k <;> rfl
  simp only [front, List.find?_nil]
  rfl

theorem mayStart_iff (s : State) : mayStart s = true ↔
    s.bus.rx.recessiveRun = 12 ∧ s.bus.tx.breakLeft = none ∧ s.bus.tx.attempt = none ∧ s.node.silenceTimer = none ∧
      (s.bus.busFault = true → 100 ≤ s.bus.tx.sinceAttempt) := by
  cases fault : s.bus.busFault <;> simp [mayStart, fault, and_assoc]

theorem execAttemptStart_of_held {s : State} {k : TxKind} {h : Held} (may : mayStart s = true)
    (next : nextEligible s.bus.slots = some k) (hh : (s.bus.slots.get k).held = some h) :
    execAttemptStart s = .next (setTx { s.bus.tx with
      sinceAttempt := 0
      attempt := some { kind := k
                        line := frameLine (frameBytes (txFrameKind k) h.frame.sender h.frame.payload) } } s) := by
  simp only [execAttemptStart, if_pos may, next, heldFrame, hh, Option.map_some]

/-- Settles O19: the start is allowed, and the first kind with an eligible frame takes the line. -/
theorem lowestEligibleKindStarts : Obligations.LowestEligibleKindStarts := by
  intro s
  simp only [← mayStart_iff, ← slotEligible_eq, ← nextEligible_eq_find]
  by_cases may : mayStart s = true
  case neg => exact ⟨s, if_neg may, by rw [if_neg may]⟩
  simp only [if_pos may]
  cases next : nextEligible s.bus.slots with
  | none => exact ⟨s, by simp only [exec, execAttemptStart, if_pos may, next], rfl⟩
  | some k =>
    cases hh : (s.bus.slots.get k).held with
    | none => exact ⟨s, by simp only [exec, execAttemptStart, if_pos may, next, heldFrame, hh, Option.map_none],
        fun _ held => nomatch hh.symm.trans held⟩
    | some h =>
      refine ⟨_, execAttemptStart_of_held may next hh, fun x held => ?_⟩
      cases hh.symm.trans held
      rfl

/-! ## Lost arbitration and line faults (R16, R18) -/

/-- A frame not yet committed makes way for its successor alone when no withdrawal or RESTART is due. -/
theorem lose_eq {sl : Slot} {h : Held} (hh : sl.held = some h) : sl.lose =
    if h.committed = true ∨ sl.withdrawDue = true ∨ sl.discardDue = true ∨ sl.next = none then
      (if h.committed = false ∧ sl.withdrawDue = true then Slot.empty
        else if sl.discardDue = true then sl.leave else sl, false)
    else ({ sl with held := sl.next.map Held.fresh, next := none }, true) := by
  by_cases committed : h.committed = true
  · simp [Slot.lose, hh, committed]
  · by_cases withdrawn : sl.withdrawDue = true
    · simp [Slot.lose, hh, committed, withdrawn]
    · by_cases restarted : sl.discardDue = true
      · simp [Slot.lose, hh, committed, withdrawn, restarted]
      · cases successor : sl.next <;> simp [Slot.lose, hh, committed, withdrawn, restarted, successor]

/-- All that a lost attempt changes. -/
theorem loseAttempt_eq (k : TxKind) (s : State) : loseAttempt k s = { s with bus := { s.bus with
    tx := { s.bus.tx with attempt := none }, slots := s.bus.slots.put k (s.bus.slots.get k).lose.1
    counters := { s.bus.counters with
      answerDrops := if (s.bus.slots.get k).lose.2 && decide (k = .answer) then min 255 (s.bus.counters.answerDrops + 1)
        else s.bus.counters.answerDrops } } } := by
  rw [← bumpTo_eq_min]
  unfold loseAttempt
  split
  next drop => rw [if_pos drop]; rfl
  next keep => rw [if_neg keep]; rfl

theorem exec_arbitrationLost_of_none {s : State} (hk : lineKind s = none) : exec .arbitrationLost s = .next s := by
  simp only [exec, execArbitrationLost, hk]

theorem exec_arbitrationLost_of_some {s : State} {k : TxKind} (hk : lineKind s = some k) :
    exec .arbitrationLost s = .next (loseAttempt k s) := by
  simp only [exec, execArbitrationLost, hk]

theorem decide_bumpTo_eq_top (n : Nat) : decide (bumpTo 16 n = 16) = decide (15 ≤ n) := by
  rw [bumpTo_eq_min, decide_eq_decide]
  omega

/-- Settles O20: the slot fares by `lose_eq`; a line fault counts besides, raises the run and marks the reception. -/
theorem lostAttemptsKeepTheFrame : Obligations.LostAttemptsKeepTheFrame := by
  refine ⟨fun s => ?_, fun s => ?_⟩
  · cases hk : lineKind s with
    | none => exact ⟨s, exec_arbitrationLost_of_none hk, fun _ => rfl, nofun⟩
    | some k =>
      refine ⟨_, exec_arbitrationLost_of_some hk, nofun, ?_⟩
      rintro _ ⟨⟩ h hh
      simp only [loseAttempt_eq, Slots.get_put_self]
      refine ⟨trivial, ?_⟩
      rw [lose_eq hh]
      split
      · exact ⟨rfl, rfl⟩
      · exact ⟨rfl, rfl, by simp⟩
  · cases hk : lineKind s with
    | none => exact ⟨s, by simp only [exec, execLineFault, hk], by rw [exec_arbitrationLost_of_none hk]; rfl⟩
    | some k =>
      refine ⟨_, by simp only [exec, execLineFault, hk]; rfl, ?_⟩
      rw [exec_arbitrationLost_of_some hk]
      simp only [loseAttempt_eq, ← bumpTo_eq_min, ← decide_bumpTo_eq_top]
      rfl

/-! ## Collisions (R17) -/

theorem passHeader_next (sl : Slot) : sl.passHeader.next = if sl.withdrawDue then none else sl.next := by
  unfold Slot.passHeader
  split
  · rfl
  · rfl

/-- Past the header a due withdrawal removes the successor alone (R14), so the slot left holds the other, if any. -/
theorem passHeader_leave (sl : Slot) : sl.passHeader.leave =
    { held := (if sl.withdrawDue then none else sl.next).map Held.fresh, next := none, withdrawDue := false
      discardDue := false } := by
  rw [Slot.leave, passHeader_next]

/-- A frame leaves by RESTART or at its eighth collision, else it stays committed with a backoff. -/
theorem collide_eq (serial : BitVec 24) {sl : Slot} {h : Held} (hh : sl.held = some h) : sl.collide serial =
    if sl.discardDue = true ∨ 7 ≤ h.attempts then
      (sl.passHeader.leave, decide (sl.discardDue = false ∧ 7 ≤ h.attempts))
    else
      ({ sl.passHeader with
          held := some { h with committed := true, attempts := h.attempts + 1
                                backoff := some (backoffBits serial (h.attempts + 1)) } }, false) := by
  have eighth : 8 ≤ h.attempts + 1 ↔ 7 ≤ h.attempts := by omega
  simp only [Slot.collide, passHeader_held, hh, eighth]
  cases sl.discardDue <;> by_cases last : 7 ≤ h.attempts <;> simp [last]

theorem exec_collision_of_none {s : State} (hk : lineKind s = none) : exec .collision s = .next s := by
  simp only [exec, execCollision, hk]

theorem exec_collision_of_some {s : State} {k : TxKind} (hk : lineKind s = some k) :
    exec .collision s = .next { s with bus := { s.bus with
      rx := { s.bus.rx with exempt := s.bus.rx.exempt || decide (s.bus.rx.state = .frame) }
      tx := { s.bus.tx with attempt := none }
      slots := s.bus.slots.put k ((s.bus.slots.get k).collide s.node.serial).1
      counters := { s.bus.counters with
        collisions := min 255 (s.bus.counters.collisions + 1)
        txDrops := if ((s.bus.slots.get k).collide s.node.serial).2 then min 255 (s.bus.counters.txDrops + 1)
          else s.bus.counters.txDrops } } } := by
  simp only [exec, execCollision, hk, ← bumpTo_eq_min]
  cases ((s.bus.slots.get k).collide s.node.serial).2 <;> rfl

/-- Settles O21: the slot fares by `collide_eq`, and the drop is counted with it. -/
theorem collisionBacksOffOrDrops : Obligations.CollisionBacksOffOrDrops := by
  intro s
  cases hk : lineKind s with
  | none => exact ⟨s, exec_collision_of_none hk, fun _ => rfl, nofun⟩
  | some k =>
    refine ⟨_, exec_collision_of_some hk, nofun, ?_⟩
    rintro _ ⟨⟩ h hh
    simp only [Slots.get_put_self, collide_eq _ hh]
    refine ⟨trivial, ?_, ?_⟩
    · split
      · simp
      next stays =>
        have kept : ¬ ((s.bus.slots.get k).discardDue = false ∧ 7 ≤ h.attempts) := fun drop => stays (.inr drop.2)
        simp [kept]
    · split
      · rw [passHeader_leave]
        exact ⟨rfl, rfl⟩
      · exact ⟨rfl, passHeader_next _⟩

end Sys2Proof.TrailBus
end

section
/-! The ends of attempts, backoffs and breaks, and the restart of the super-cycle by the node's own BEAT (O22). -/

namespace Sys2Proof.TrailBus

open Sys2Proof Sys2Proof.Machine Sys2Proof.Safety

set_option Elab.async false

/-! ## The readings of a display (R173, R175, R180, R182) -/

@[simp] theorem Quad_get_ofLamp {α : Type} (f : Lamp → α) (l : Lamp) : (Quad.ofLamp f).get l = f l := by
  cases l <;> rfl

theorem isServing_iff (st : NodeState) : isServing st = true ↔ st = .safe ∨ st = .run ∨ st = .failsafe := by
  cases st <;> decide

theorem requiredLamp_eq (s : State) (l : Lamp) : requiredLamp s l = isRequired (functionOf s l) := by
  unfold requiredLamp
  cases functionOf s l with
  | none => rfl
  | some f => cases f <;> rfl

theorem dimmedStep_eq_dimmed (s : State) (l : Lamp) (level : Nat) : dimmedStep s l level = dimmed s l level := by
  simp only [dimmedStep, dimmed, requiredLamp_eq, ← isServing_iff]
  cases isServing s.node.state
  · simp
  · simp only [true_and, if_true, ← Nat.not_le, ite_not]

theorem onBeats_parity (p : Pattern) (epoch : Nat) : onBeats p epoch = onBeats p (epoch % 2) := by
  cases p <;> simp [onBeats]

theorem patternOn_parity (p : Pattern) (beat epoch : Nat) : patternOn p beat epoch = patternOn p beat (epoch % 2) := by
  cases p <;> simp [patternOn]

/-- Table 9-3 by its list of beats and by its ranges. -/
theorem mem_onBeats_iff (p : Pattern) (beat epoch : Nat) (inCycle : beat ≤ 31) :
    beat ∈ onBeats p epoch ↔ patternOn p beat epoch = true := by
  rw [onBeats_parity, patternOn_parity]
  rcases Nat.mod_two_eq_zero_or_one epoch with parity | parity
  all_goals
    rw [parity]
    revert beat
    cases p <;> decide

theorem shownStep_eq (s : State) (l : Lamp) (d : Display) (beat epoch : Nat) (inCycle : beat ≤ 31) :
    shownStep s l d beat epoch = dimmed s l (stepOf d beat epoch) := by
  rcases d with _ | ⟨p, level⟩
  · exact dimmedStep_eq_dimmed s l 0
  · simp only [shownStep, dimmedStep_eq_dimmed, stepOf, mem_onBeats_iff p beat epoch inCycle]

theorem samePattern_iff (a b : Display) : samePattern a b = true ↔ stepsKey a = stepsKey b := by
  rcases a with _ | ⟨p, _⟩ <;> rcases b with _ | ⟨q, _⟩
  · decide
  · cases q <;> simp [samePattern, stepsKey]
  · cases p <;> simp [samePattern, stepsKey]
  · cases p <;> cases q <;> simp [samePattern, stepsKey]

/-- The current and the pending display of a channel under a wanted one. -/
theorem want_eq (c : Channel) (w : Display) :
    c.want w = { c with current := (resolved w c.current).1, pending := (resolved w c.current).2 } := by
  simp only [Channel.want, resolved, samePattern_iff]
  split
  · rfl
  · rcases w with _ | ⟨p, _⟩
    · rfl
    · cases p <;> rfl

theorem promote_eq (c : Channel) : c.promote = { c with current := c.pending.getD c.current, pending := none } := by
  cases c with
  | mk _ _ pending => cases pending <;> rfl

theorem peerBraking_eq (p : Peers) : peerBraking p = p.table.any fun e => e.age ≤ 60 && e.braking := by
  have fresh (e : PeerEntry) : decide (freshnessOf e.age = .fresh) = decide (e.age ≤ 60) := by
    unfold freshnessOf
    split
    next young => simp [young]
    next old => split <;> simp [old]
  simp only [peerBraking, freshPeers, List.any_filter, fresh]

theorem brakeHoldAfter_eq (s : State) : brakeHoldAfter s = brakeHoldNext s := by
  simp only [brakeHoldAfter, brakeHoldNext, ← isServing_iff, peerBraking_eq, Bool.or_eq_true]

/-! ## What a change of the channels leaves of the wanted displays -/

/-- A change of the lights that leaves every channel its function. -/
theorem functionOf_setLights {s : State} {x : Lights} {l : Lamp}
    (function : (x.channels.get l).function = (s.lights.channels.get l).function) :
    functionOf (s.setLights x) l = functionOf s l := by
  simp only [functionOf, State.setLights_monitor, State.setLights_node, State.setLights_lights, function]

theorem dimmed_setLights {s : State} {x : Lights} {l : Lamp} (level : Nat)
    (function : (x.channels.get l).function = (s.lights.channels.get l).function) :
    dimmed (s.setLights x) l level = dimmed s l level := by
  simp only [dimmed, functionOf_setLights function]
  rfl

theorem servingDisplay_setLights {s : State} {x : Lights} (f : LampFunction) (hold : x.brakeHold = s.lights.brakeHold) :
    servingDisplay (s.setLights x) f = servingDisplay s f := by
  have row : functionRow (s.setLights x) f = functionRow s f := by
    simp only [functionRow, State.setLights_lights, hold]
    rfl
  simp only [servingDisplay, row]
  rfl

theorem wantedDisplay_setLights {s : State} {x : Lights} {l : Lamp}
    (function : (x.channels.get l).function = (s.lights.channels.get l).function)
    (hold : x.brakeHold = s.lights.brakeHold) : wantedDisplay (s.setLights x) l = wantedDisplay s l := by
  simp only [wantedDisplay, functionOf_setLights function, servingDisplay_setLights _ hold, State.setLights_node]
  rfl

/-! ## The restart of the super-cycle (R171, R172, R174) -/

/-- The state whose inputs a restart reads: beat 0 with the brake hold stepped. -/
def restartInputs (s : State) : State :=
  s.setLights { s.lights with beat := 0, beatTimer := some 0, brakeHold := brakeHoldNext s }

theorem mapChannels_channel (f : Lamp → Channel → Channel) (s : State) (l : Lamp) :
    (mapChannels f s).lights.channels.get l = f l (s.lights.channels.get l) := Quad_get_ofLamp _ l

theorem dimmed_mapChannels {f : Lamp → Channel → Channel} {s : State} {l : Lamp} (level : Nat)
    (function : ∀ c, (f l c).function = c.function) : dimmed (mapChannels f s) l level = dimmed s l level :=
  dimmed_setLights level (by rw [Quad_get_ofLamp, function])

/-- The wanted displays resolved, as a restart reads its inputs. -/
def resolvedAtRestart (s : State) : State :=
  mapChannels (fun l c => c.want (wantedDisplay (restartInputs s) l)) (restartInputs s)

theorem dimmed_resolvedAtRestart (s : State) (l : Lamp) (level : Nat) :
    dimmed (resolvedAtRestart s) l level = dimmed s l level := by
  rw [resolvedAtRestart, dimmed_mapChannels level fun c => by rw [want_eq]]
  exact dimmed_setLights level rfl

/-- The displays at a super-cycle start, with the steps of beat 0 active. -/
def startedAtRestart (s : State) : State :=
  mapChannels (fun l c => { c.promote with active := stageLevel (resolvedAtRestart s) l c.promote 0 s.lights.epoch })
    (resolvedAtRestart s)

theorem dimmed_startedAtRestart (s : State) (l : Lamp) (level : Nat) :
    dimmed (startedAtRestart s) l level = dimmed s l level := by
  rw [startedAtRestart, dimmed_mapChannels level fun c => by rw [promote_eq]]
  exact dimmed_resolvedAtRestart s l level

theorem restartCycle_eq (s : State) : restartCycle s = stageChannels (startedAtRestart s) := rfl

/-- Before any beat but the last the present display is staged for the next beat. -/
theorem stageChannels_channel {s : State} (l : Lamp) (inCycle : s.lights.beat < 31) :
    (stageChannels s).lights.channels.get l =
      { s.lights.channels.get l with
        staged := stageLevel s l (s.lights.channels.get l) (s.lights.beat + 1) s.lights.epoch } := by
  have notLast : ¬ 31 ≤ s.lights.beat := by omega
  simp only [stageChannels, mapChannels_channel, nextBeat, nextEpoch, if_neg notLast, Nat.add_one_ne_zero, if_false]

/-- A channel at a restart: its wanted display current, with the steps of beats 0 and 1. -/
theorem restartCycle_channel (s : State) (l : Lamp) :
    let c := s.lights.channels.get l
    let shown := (started (resolved (wantedDisplay (restartInputs s) l) c.current)).1
    (restartCycle s).lights.channels.get l =
      { function := c.function, current := shown, pending := none
        active := dimmed s l (stepOf shown 0 s.lights.epoch), staged := dimmed s l (stepOf shown 1 s.lights.epoch) } := by
  have channel : (resolvedAtRestart s).lights.channels.get l =
      (s.lights.channels.get l).want (wantedDisplay (restartInputs s) l) := mapChannels_channel _ _ l
  have beat : (startedAtRestart s).lights.beat = 0 := rfl
  have epoch : (startedAtRestart s).lights.epoch = s.lights.epoch := rfl
  rw [restartCycle_eq, stageChannels_channel l (beat ▸ by decide), beat, epoch, stageLevel, dimmed_startedAtRestart,
    startedAtRestart, mapChannels_channel, stageLevel, dimmed_resolvedAtRestart, channel, promote_eq, want_eq]
  rfl

theorem restartCycle_aside (s : State) : restartCycle s = (restartInputs s).setLights (restartCycle s).lights := rfl

theorem restartCycle_brakeHold (s : State) : (restartCycle s).lights.brakeHold = brakeHoldNext s := rfl

theorem wantedDisplay_restartCycle (s : State) (l : Lamp) :
    wantedDisplay (restartCycle s) l = wantedDisplay (restartInputs s) l := by
  have channel := restartCycle_channel s l
  rw [restartCycle_aside]
  exact wantedDisplay_setLights (by rw [channel]; rfl) rfl

theorem dimmed_restartCycle (s : State) (l : Lamp) (level : Nat) : dimmed (restartCycle s) l level = dimmed s l level := by
  have channel := restartCycle_channel s l
  calc dimmed (restartCycle s) l level
      = dimmed (restartInputs s) l level := by
        rw [restartCycle_aside]
        exact dimmed_setLights level (by rw [channel]; rfl)
    _ = dimmed s l level := dimmed_setLights level rfl

theorem cycleRestarted_restartCycle (s : State) : CycleRestarted s (restartCycle s) := by
  refine ⟨rfl, rfl, (restartCycle_brakeHold s).trans (brakeHoldAfter_eq s).symm, fun l => ?_⟩
  have epoch : (restartCycle s).lights.epoch = s.lights.epoch := rfl
  simp only [wantedDisplay_restartCycle, shownStep_eq _ _ _ _ _ (Nat.zero_le 31), shownStep_eq _ _ _ 1 _ (by decide),
    dimmed_restartCycle, epoch, restartCycle_channel]

/-! ## The ends of attempts, backoffs and breaks (R17 to R19) -/

theorem exec_attemptComplete_of_none {s : State} (hk : lineKind s = none) : exec .attemptComplete s = .next s := by
  simp only [exec, execAttemptComplete, hk]

theorem exec_attemptComplete_of_some {s : State} {k : TxKind} (hk : lineKind s = some k) :
    exec .attemptComplete s = .next (if k = .beat then restartCycle (completeAttempt s) else completeAttempt s) := by
  simp only [exec, execAttemptComplete, hk]

/-- All that a completed attempt changes (R18). -/
theorem completeAttempt_eq {s : State} {k : TxKind} (hk : lineKind s = some k) : completeAttempt s = { s with
    bus := { s.bus with
      rx := { s.bus.rx with echo := s.bus.rx.echo || decide (s.bus.rx.state = .frame) }
      tx := { s.bus.tx with attempt := none }, lineFaultRun := 0, busFault := false
      slots := s.bus.slots.put k (s.bus.slots.get k).passHeader.leave } } := by
  simp only [completeAttempt, finishAttempt_eq, hk]
  rfl

/-- Settles O22: BACKOFF_EXPIRY and BREAK_END by their definitions; a completed BEAT restarts the cycle besides. -/
theorem attemptsAndBreaksEnd : Obligations.AttemptsAndBreaksEnd := by
  refine ⟨fun kind s => ⟨_, rfl, ?_, Slots.get_put_self _ _ _⟩, fun s => ⟨_, rfl, rfl⟩, fun s => ?_⟩
  · simp only [setSlot, State.setBus, Slots.get_put_self]
  · cases hk : lineKind s with
    | none => exact ⟨s, exec_attemptComplete_of_none hk, fun _ => rfl, nofun⟩
    | some k =>
      refine ⟨_, exec_attemptComplete_of_some hk, nofun, ?_⟩
      rintro _ ⟨⟩
      rw [completeAttempt_eq hk, passHeader_leave]
      by_cases beat : k = .beat
      · simp only [if_pos beat]
        have slot (u : State) : (restartCycle u).bus.slots.get k = u.bus.slots.get k := rfl
        rw [slot, Slots.get_put_self]
        exact ⟨rfl, rfl, rfl, cycleRestarted_restartCycle _, rfl, rfl⟩
      · simp only [if_neg beat, Slots.get_put_self]
        exact ⟨trivial, rfl, trivial, trivial⟩

end Sys2Proof.TrailBus
end

section
/-! SUPPORT. All that the drum's operations, going safe and a change of the node state can change, said once. -/

namespace Sys2Proof.NodeControl

open Sys2Proof Sys2Proof.Machine Sys2Proof.Safety

variable {s t u : State}

/-! ## What the role and the safe hold read -/

theorem roleOf_of_same (position : t.node.position = s.node.position := by rfl)
    (image : t.node.image = s.node.image := by rfl) : roleOf t = roleOf s := by
  simp only [roleOf, position, image]

theorem safeModeA_of_same (state : t.node.state = s.node.state := by rfl)
    (position : t.node.position = s.node.position := by rfl) (image : t.node.image = s.node.image := by rfl)
    (withdrawn : t.monitor.withdrawn = s.monitor.withdrawn := by rfl)
    (holdA : t.monitor.holdA = s.monitor.holdA := by rfl) : safeModeA t = safeModeA s := by
  simp only [safeModeA, roleOf, state, position, image, withdrawn, holdA]

/-! ## Placements and events -/

/-- A placement other than an ANSWER's changes its slot alone (R13). -/
theorem placeFrame_frame_of_ne {k : TxKind} (other : k ≠ .answer) (payload : List Byte) (s : State) :
    placeFrame k payload s =
      s.setBus { s.bus with slots := s.bus.slots.put k ((placeFrame k payload s).bus.slots.get k) } := by
  unfold placeFrame
  cases stationOf s with
  | none =>
    dsimp only
    rw [Slots.put_get]
    rfl
  | some n =>
    simp only [other, decide_false, Bool.and_false, Bool.false_eq_true, if_false, setSlot, State.setBus_bus,
      Slots.get_put_self]

theorem raiseEvent_frame (e : ReportEvent) (s : State) :
    raiseEvent e s = s.setNode { s.node with eventDue := (raiseEvent e s).node.eventDue } := by
  rcases raiseEvent_cases e s with h | h <;> rw [h] <;> rfl

/-- Where no REPORT is placed an event has no effect (R43). -/
theorem raiseEvent_of_silent {e : ReportEvent} (silent : reportsNow s = false) : raiseEvent e s = s := by
  simp [raiseEvent, silent]

/-! ## The drum -/

/-- `t` is `s` but for what the drum's operations change, the bridges apart: the drum with its loop and its operation, the
WINCH slot and the event mark (R157 to R164). -/
def SameButDrum (s t : State) : Prop :=
  t = { s with
    winch := { s.winch with
      drum := t.winch.drum, stallWindow := t.winch.stallWindow, cap := t.winch.cap, integrator := t.winch.integrator
      engageTimer := t.winch.engageTimer, winchTimer := t.winch.winchTimer, op := t.winch.op, log := t.winch.log }
    bus := { s.bus with slots := { s.bus.slots with winch := t.bus.slots.winch } }
    node := { s.node with eventDue := t.node.eventDue } }

theorem SameButDrum.refl (s : State) : SameButDrum s s := rfl

theorem SameButDrum.trans (h : SameButDrum s t) (k : SameButDrum t u) : SameButDrum s u := by
  unfold SameButDrum at h k ⊢
  rw [h] at k
  exact k

theorem SameButDrum.ite {c : Prop} [Decidable c] (h : SameButDrum s t) (k : SameButDrum s u) :
    SameButDrum s (if c then t else u) := by
  split
  · exact h
  · exact k

theorem SameButDrum.bridgeA (h : SameButDrum s t) : t.bridgeA = s.bridgeA := by
  unfold SameButDrum at h
  rw [h]

theorem SameButDrum.bridgeB (h : SameButDrum s t) : t.bridgeB = s.bridgeB := by
  unfold SameButDrum at h
  rw [h]

/-- An operation on the bridges and their units acts alike on both states. -/
theorem SameButDrum.offBridgeB (h : SameButDrum s t) : SameButDrum (offBridgeB s) (offBridgeB t) :=
  congrArg Machine.offBridgeB h

theorem SameButDrum.holdBridgeA (h : SameButDrum s t) : SameButDrum (holdBridgeA s) (holdBridgeA t) :=
  congrArg Machine.holdBridgeA h

theorem sameButDrum_placeWinch (s : State) : SameButDrum s (placeWinch s) := by
  unfold placeWinch
  rw [placeFrame_frame_of_ne (k := .winch) (by decide)]
  rfl

theorem sameButDrum_raiseEvent (e : ReportEvent) (s : State) : SameButDrum s (raiseEvent e s) := by
  rw [raiseEvent_frame]
  rfl

theorem sameButDrum_setDrum (d : DrumState) (s : State) : SameButDrum s (setDrum d s) := by
  have changed {c : Option Int} {i : Int} : SameButDrum s (s.setWinch { s.winch with
      drum := d, stallWindow := none, cap := c, integrator := i, engageTimer := none }) := rfl
  unfold setDrum
  exact .ite (.refl s) (.trans (.ite (changed.trans (sameButDrum_placeWinch _)) changed) (sameButDrum_raiseEvent _ _))

theorem sameButDrum_closeOperation (reason : EndReason) (s : State) : SameButDrum s (closeOperation reason s) := by
  rcases closeOperation_cases reason s with ⟨_, h⟩ | ⟨r, _, h⟩ <;> rw [h] <;> rfl

/-- On the winch position the drum is released with bridge B OFF (R162). -/
theorem releaseDrum_of_winch (reason : EndReason) (winch : roleOf s = .winch) :
    SameButDrum (offBridgeB s) (releaseDrum reason s) := by
  have released := (sameButDrum_closeOperation reason s).offBridgeB
  unfold releaseDrum
  rw [if_pos winch]
  exact .ite released (released.trans (sameButDrum_setDrum _ _))

theorem releaseDrum_of_other (reason : EndReason) (other : roleOf s ≠ .winch) : releaseDrum reason s = s := if_neg other

/-! ## Going safe -/

/-- The steering unit as going safe leaves it (R127). -/
def restSteer (x : Steer) : Steer :=
  { x with loop := false, pendingMode := none, stallWindow := none, stallLimit := none, centered := false
           geometry := Geometry.straightIn x.mode, presented := 0 }

/-- The outputs safe, the drum apart (R27, R102, R127). -/
def safeOutputs (s : State) : State :=
  { s with
    bridgeA := s.bridgeA.force (safeModeA s) 0, bridgeB := s.bridgeB.force .off 0, steer := restSteer s.steer
    drive := { s.drive with tripWait := none, ramped := 0, integrator := 0 }
    monitor := { s.monitor with tripWait := none } }

theorem force_force (b : Bridge) (m : BridgeMode) (d : Nat) : (b.force m d).force m d = b.force m d := by
  simp [Bridge.force]

/-- Bridge B is OFF once steering is cleared, so putting it OFF again changes nothing. -/
theorem offBridgeB_clearSteer (s : State) : offBridgeB (endTripWaitB (clearSteer s)) = endTripWaitB (clearSteer s) :=
  congrArg (endTripWaitB (clearSteer s)).setBridgeB (force_force s.bridgeB .off 0)

/-- All that going safe changes. -/
theorem goSafe_changes (reason : EndReason) (s : State) : SameButDrum (safeOutputs s) (goSafe reason s) := by
  have outputs : holdBridgeA (endTripWaitB (clearSteer s)) = safeOutputs s := by
    dsimp only [holdBridgeA, forceBridgeA, zeroDrive, endTripWaitB, clearSteer, offBridgeB, forceBridgeB, State.setBridgeA,
      State.setBridgeB, State.setDrive, State.setMonitor, State.setSteer]
    rfl
  unfold goSafe
  rw [← outputs]
  by_cases winch : roleOf (endTripWaitB (clearSteer s)) = .winch
  · have released := releaseDrum_of_winch reason winch
    rw [offBridgeB_clearSteer] at released
    exact released.holdBridgeA
  · rw [releaseDrum_of_other reason winch]
    exact .refl _

/-! ## The resets of Table 2-7 -/

/-- Every block in its reset state, the bridges apart. -/
def blocksReset (s : State) : State :=
  { s with
    node := s.node.restart, bus := s.bus.restart, peers := Peers.reset, intake := Intake.reset, power := Power.reset
    steer := Steer.reset, drive := Drive.reset, lights := Lights.reset, monitor := s.monitor.restart
    winch := { Winch.reset with lineOut := s.winch.lineOut, referenced := s.winch.referenced, log := s.winch.log } }

theorem restartBlocks_eq (s : State) : restartBlocks s = { blocksReset s with
    bridgeA := { s.bridgeA.force (safeModeA (blocksReset s)) 0 with used := drivesMode (safeModeA (blocksReset s)) }
    bridgeB := { s.bridgeB.force .off 0 with used := false } } := by
  dsimp only [restartBlocks, clearMarks, holdBridgeA, forceBridgeA, forceBridgeB, zeroDrive, State.setNode, State.setBus,
    State.setPeers, State.setIntake, State.setPower, State.setSteer, State.setDrive, State.setWinch, State.setLights,
    State.setMonitor, State.setBridgeA, State.setBridgeB, blocksReset, Bridge.force]
  rfl

end Sys2Proof.NodeControl
end

section
/-! SUPPORT. What a command keeps, in two relations. `Steady` is for the operations that stay in the node state and in the
CHECK step under way; `Lasting` is for those that may change either. Each shared operation and each node-state entry is shown
to keep one of them once, by a lemma that takes what comes before the operation; the lemmas nest as the operations do. -/

namespace Sys2Proof.NodeControl

open Sys2Proof Sys2Proof.Machine Sys2Proof.Safety

variable {s t u : State}

/-! ## The outputs' invariant by bridge (R27) -/

/-- Bridge A may drive: in RUN and FAILSAFE, and in the load step of CHECK. -/
def allowsA (s : State) : Prop := mayDrive s ∨ s.monitor.position = some .loadA

/-- Bridge B may leave OFF: in RUN and FAILSAFE, and in a step of CHECK that drives it. -/
def allowsB (s : State) : Prop := mayDrive s ∨ drivesBStep s.monitor.position

/-- Bridge A drives only where it may. -/
def HeldA (s : State) : Prop :=
  (drivesMode s.bridgeA.next.mode = true → allowsA s) ∧ (drivesMode s.bridgeA.active.mode = true → allowsA s)

/-- Bridge B leaves OFF only where it may. -/
def HeldB (s : State) : Prop :=
  (s.bridgeB.next.mode ≠ .off → allowsB s) ∧ (s.bridgeB.active.mode ≠ .off → allowsB s)

theorem outputsInv_iff : OutputsInv s ↔
    (s.monitor.position.isSome → s.node.state = .check) ∧ HoldIsSafe s ∧ HeldA s ∧ HeldB s :=
  ⟨fun h => ⟨h.stepInCheck, h.holdSafe, ⟨h.nextA, h.activeA⟩, ⟨h.nextB, h.activeB⟩⟩,
    fun ⟨step, hold, ⟨nextA, activeA⟩, ⟨nextB, activeB⟩⟩ => ⟨step, hold, nextA, activeA, nextB, activeB⟩⟩

theorem allowsA_of_same (h : allowsA s) (state : t.node.state = s.node.state)
    (position : t.monitor.position = s.monitor.position) : allowsA t := by
  simpa only [allowsA, mayDrive, state, position] using h

theorem allowsB_of_same (h : allowsB s) (state : t.node.state = s.node.state)
    (position : t.monitor.position = s.monitor.position) : allowsB t := by
  simpa only [allowsB, mayDrive, state, position] using h

/-- The safe hold drives nothing (Table 2-3, R193). -/
theorem drivesMode_safeModeA (hold : HoldIsSafe s) : drivesMode (safeModeA s) = false := by
  unfold safeModeA
  split
  · cases fixed : s.monitor.holdA with
    | none => rfl
    | some m => rcases hold m fixed with rfl | rfl <;> rfl
  · split
    · rfl
    · split <;> rfl

theorem drivesMode_restModeA (hold : HoldIsSafe s) : drivesMode (restModeA s) = false := by
  unfold restModeA
  split
  · rfl
  · exact drivesMode_safeModeA hold

/-! ## Within a node state -/

/-- From `s` to `t` the node state and the CHECK step stand, with what no command of them changes; the outputs and the dark
channels are kept as the invariants of O7 ask. -/
structure Steady (s t : State) : Prop where
  pending : t.pending = s.pending
  now : t.now = s.now
  serial : t.node.serial = s.node.serial
  uptime : t.node.uptime = s.node.uptime
  image : t.node.image = s.node.image
  state : t.node.state = s.node.state
  position : t.monitor.position = s.monitor.position
  hold : HoldIsSafe s → HoldIsSafe t
  heldA : HoldIsSafe s → HeldA s → HeldA t
  heldB : HeldB s → HeldB t
  dark : CutoffDarkInv s → CutoffDarkInv t

theorem Steady.refl (s : State) : Steady s s := ⟨rfl, rfl, rfl, rfl, rfl, rfl, rfl, id, fun _ => id, id, id⟩

theorem Steady.trans (h : Steady s t) (k : Steady t u) : Steady s u where
  pending := k.pending.trans h.pending
  now := k.now.trans h.now
  serial := k.serial.trans h.serial
  uptime := k.uptime.trans h.uptime
  image := k.image.trans h.image
  state := k.state.trans h.state
  position := k.position.trans h.position
  hold := k.hold ∘ h.hold
  heldA hold held := k.heldA (h.hold hold) (h.heldA hold held)
  heldB := k.heldB ∘ h.heldB
  dark := k.dark ∘ h.dark

theorem Steady.ite {c : Prop} [Decidable c] (h : Steady s t) (k : Steady s u) : Steady s (if c then t else u) := by
  split
  · exact h
  · exact k

theorem Steady.outputs (h : Steady s t) (inv : OutputsInv s) : OutputsInv t := by
  obtain ⟨step, hold, heldA, heldB⟩ := outputsInv_iff.1 inv
  exact outputsInv_iff.2 ⟨by rwa [h.position, h.state], h.hold hold, h.heldA hold heldA, h.heldB heldB⟩

/-- An operation that writes nothing the relation speaks of: each of those fields it passes through. -/
theorem Steady.aside (h : Steady s t) (pending : u.pending = t.pending := by rfl) (now : u.now = t.now := by rfl)
    (serial : u.node.serial = t.node.serial := by rfl) (uptime : u.node.uptime = t.node.uptime := by rfl)
    (image : u.node.image = t.node.image := by rfl) (state : u.node.state = t.node.state := by rfl)
    (position : u.monitor.position = t.monitor.position := by rfl) (holdA : u.monitor.holdA = t.monitor.holdA := by rfl)
    (nextA : u.bridgeA.next = t.bridgeA.next := by rfl) (activeA : u.bridgeA.active = t.bridgeA.active := by rfl)
    (nextB : u.bridgeB.next = t.bridgeB.next := by rfl) (activeB : u.bridgeB.active = t.bridgeB.active := by rfl)
    (channels : u.lights.channels = t.lights.channels := by rfl) : Steady s u :=
  h.trans
    { pending, now, serial, uptime, image, state, position
      hold := fun safe m => holdA ▸ safe m
      heldA := fun _ held => ⟨fun d => allowsA_of_same (held.1 (nextA ▸ d)) state position,
        fun d => allowsA_of_same (held.2 (activeA ▸ d)) state position⟩
      heldB := fun held => ⟨fun d => allowsB_of_same (held.1 (nextB ▸ d)) state position,
        fun d => allowsB_of_same (held.2 (activeB ▸ d)) state position⟩
      dark := fun inv => by simpa only [CutoffDarkInv, state, channels] using inv }

/-! ## Updates that write nothing the relation speaks of -/

theorem steady_setPins {x : Pins} (h : Steady s t) : Steady s (t.setPins x) := h.aside
theorem steady_setBus {x : Bus} (h : Steady s t) : Steady s (t.setBus x) := h.aside
theorem steady_setPeers {x : Peers} (h : Steady s t) : Steady s (t.setPeers x) := h.aside
theorem steady_setIntake {x : Intake} (h : Steady s t) : Steady s (t.setIntake x) := h.aside
theorem steady_setPower {x : Power} (h : Steady s t) : Steady s (t.setPower x) := h.aside
theorem steady_setSteer {x : Steer} (h : Steady s t) : Steady s (t.setSteer x) := h.aside
theorem steady_setDrive {x : Drive} (h : Steady s t) : Steady s (t.setDrive x) := h.aside
theorem steady_setWinch {x : Winch} (h : Steady s t) : Steady s (t.setWinch x) := h.aside

theorem steady_setNode {x : Node} (h : Steady s t) (serial : x.serial = t.node.serial := by rfl)
    (uptime : x.uptime = t.node.uptime := by rfl) (image : x.image = t.node.image := by rfl)
    (state : x.state = t.node.state := by rfl) : Steady s (t.setNode x) :=
  h.aside (serial := serial) (uptime := uptime) (image := image) (state := state)

theorem steady_setMonitor {x : Monitor} (h : Steady s t) (position : x.position = t.monitor.position := by rfl)
    (holdA : x.holdA = t.monitor.holdA := by rfl) : Steady s (t.setMonitor x) :=
  h.aside (position := position) (holdA := holdA)

/-! ## The bridges and the channels -/

theorem steady_setBridgeA {x : Bridge} (h : Steady s t)
    (next : HoldIsSafe t → HeldA t → drivesMode x.next.mode = true → allowsA t)
    (active : HoldIsSafe t → HeldA t → drivesMode x.active.mode = true → allowsA t) : Steady s (t.setBridgeA x) :=
  h.trans { Steady.refl t with heldA := fun hold held => ⟨next hold held, active hold held⟩ }

theorem steady_setBridgeB {x : Bridge} (h : Steady s t) (next : HeldB t → x.next.mode ≠ .off → allowsB t)
    (active : HeldB t → x.active.mode ≠ .off → allowsB t) : Steady s (t.setBridgeB x) :=
  h.trans { Steady.refl t with heldB := fun held => ⟨next held, active held⟩ }

theorem steady_forceBridgeA {m : BridgeMode} {d : Nat} (h : Steady s t)
    (may : HoldIsSafe t → drivesMode m = true → allowsA t) : Steady s (forceBridgeA m d t) :=
  steady_setBridgeA h (fun hold _ => may hold) fun hold _ => may hold

theorem steady_writeBridgeA {m : BridgeMode} {d : Nat} (h : Steady s t)
    (may : HoldIsSafe t → drivesMode m = true → allowsA t) : Steady s (writeBridgeA m d t) :=
  steady_setBridgeA h (fun hold _ => may hold) fun _ held => held.2

theorem steady_forceBridgeB {m : BridgeMode} {d : Nat} (h : Steady s t) (may : m ≠ .off → allowsB t) :
    Steady s (forceBridgeB m d t) := steady_setBridgeB h (fun _ => may) fun _ => may

theorem steady_writeBridgeB {m : BridgeMode} {d : Nat} (h : Steady s t) (may : HeldB t → m ≠ .off → allowsB t) :
    Steady s (writeBridgeB m d t) := steady_setBridgeB h may fun held => held.2

/-- A mode that drives nothing needs no leave. -/
theorem allowsA_of_quiet {m : BridgeMode} (quiet : drivesMode m = false) (drives : drivesMode m = true) : allowsA t := by
  rw [quiet] at drives
  cases drives

theorem steady_zeroDrive (h : Steady s t) : Steady s (zeroDrive t) := steady_setDrive h

theorem steady_holdBridgeA (h : Steady s t) : Steady s (holdBridgeA t) :=
  steady_forceBridgeA (steady_zeroDrive (steady_setDrive h)) fun hold => allowsA_of_quiet (drivesMode_safeModeA (s := t) hold)

theorem steady_brakeBridgeA (h : Steady s t) : Steady s (brakeBridgeA t) :=
  steady_forceBridgeA (steady_zeroDrive h) fun hold => allowsA_of_quiet (drivesMode_safeModeA (s := t) hold)

theorem steady_shutBridgeA (h : Steady s t) : Steady s (shutBridgeA t) := by
  unfold shutBridgeA
  exact .ite (steady_zeroDrive h) (steady_brakeBridgeA h)

theorem steady_offBridgeB (h : Steady s t) : Steady s (offBridgeB t) := steady_setSteer (steady_forceBridgeB h nofun)

theorem steady_restBridges (h : Steady s t) : Steady s (restBridges t) :=
  steady_offBridgeB (steady_forceBridgeA h fun hold => allowsA_of_quiet (drivesMode_restModeA hold))

theorem steady_clearMarks (h : Steady s t) : Steady s (clearMarks t) := h.aside

theorem steady_setLights {x : Lights} (h : Steady s t)
    (dark : CutoffDarkInv t → CutoffDarkInv (t.setLights x) := by exact id) : Steady s (t.setLights x) :=
  h.trans { Steady.refl t with dark }

/-! ## The bus port's operations, reports and records -/

theorem steady_countBus {f : BusCounters → BusCounters} (h : Steady s t) : Steady s (countBus f t) := h.aside
theorem steady_setRx {x : Receiver} (h : Steady s t) : Steady s (setRx x t) := h.aside
theorem steady_setTx {x : Transmitter} (h : Steady s t) : Steady s (setTx x t) := h.aside
theorem steady_popQueue (h : Steady s t) : Steady s (popQueue t) := h.aside
theorem steady_setSlot {k : TxKind} {sl : Slot} (h : Steady s t) : Steady s (setSlot k sl t) := h.aside
theorem steady_withdrawFrame {k : TxKind} (h : Steady s t) : Steady s (withdrawFrame k t) := h.aside

theorem steady_placeFrame {k : TxKind} {payload : List Byte} (h : Steady s t) : Steady s (placeFrame k payload t) := by
  rw [placeFrame_frame]
  exact h.aside

theorem steady_placeAnswer {asker code : Nat} {result : AnswerResult} {data : List Byte} (h : Steady s t) :
    Steady s (placeAnswer asker code result data t) := steady_placeFrame h

theorem steady_finishAttempt (h : Steady s t) : Steady s (finishAttempt t) := by
  rw [TrailBus.finishAttempt_eq]
  cases lineKind t with
  | none => exact h
  | some k => exact h.aside

theorem steady_requestBreak (h : Steady s t) : Steady s (requestBreak t) := by
  rw [TrailBus.requestBreak_eq]
  exact .ite h (steady_setRx (steady_setTx (steady_finishAttempt h)))

theorem steady_placeReport (h : Steady s t) : Steady s (placeReport t) := steady_setNode (steady_placeFrame h)

theorem steady_raiseEvent {e : ReportEvent} (h : Steady s t) : Steady s (raiseEvent e t) := by
  rcases raiseEvent_cases e t with he | he <;> rw [he]
  · exact h
  · exact h.aside

theorem steady_settle (h : Steady s t) : Steady s (settle t) := by
  unfold settle
  refine .ite ?_ h
  cases t.node.sinceReport with
  | none => exact steady_placeReport (steady_setNode h)
  | some ms => exact .ite (steady_placeReport (steady_setNode h)) (steady_setNode (steady_setNode h))

theorem steady_addFaultIn {st : NodeState} {kind : FaultKind} {output : FaultOutput} {detail : Int} (h : Steady s t) :
    Steady s (addFaultIn st kind output detail t) := steady_raiseEvent (steady_setMonitor h)

theorem steady_addFault {kind : FaultKind} {output : FaultOutput} {detail : Int} (h : Steady s t) :
    Steady s (addFault kind output detail t) := steady_addFaultIn h

theorem steady_placeNotice (h : Steady s t) : Steady s (placeNotice t) := by
  unfold placeNotice
  split
  · exact steady_setNode (steady_placeFrame h)
  · exact h

/-! ## The drum -/

theorem steady_placeWinch (h : Steady s t) : Steady s (placeWinch t) := steady_setWinch (steady_placeFrame h)

theorem steady_setDrum {d : DrumState} (h : Steady s t) : Steady s (setDrum d t) := by
  unfold setDrum
  exact .ite h (steady_raiseEvent (.ite (steady_placeWinch (steady_setWinch h)) (steady_setWinch h)))

theorem steady_closeOperation {reason : EndReason} (h : Steady s t) : Steady s (closeOperation reason t) := by
  rcases closeOperation_cases reason t with ⟨_, hc⟩ | ⟨r, _, hc⟩ <;> rw [hc]
  · exact h
  · exact steady_setWinch h

theorem steady_endOperation {reason : EndReason} {d : DrumState} (h : Steady s t) : Steady s (endOperation reason d t) :=
  steady_setDrum (steady_brakeBridgeA (steady_closeOperation h))

theorem steady_releaseDrum {reason : EndReason} (h : Steady s t) : Steady s (releaseDrum reason t) := by
  have released := steady_offBridgeB (steady_closeOperation (reason := reason) h)
  unfold releaseDrum
  exact .ite (.ite released (steady_setDrum released)) h

/-! ## Effects that several entries share -/

theorem steady_clearIntake (h : Steady s t) : Steady s (clearIntake t) := steady_setIntake h

theorem steady_clearSteer (h : Steady s t) : Steady s (clearSteer t) := steady_setSteer (steady_offBridgeB h)

theorem steady_endTripWaitB (h : Steady s t) : Steady s (endTripWaitB t) := steady_setMonitor h

theorem steady_clearLoss (h : Steady s t) : Steady s (clearLoss t) := steady_setSteer h

theorem steady_startReportTimer (h : Steady s t) : Steady s (startReportTimer t) := by
  unfold startReportTimer
  exact .ite (steady_setNode h) h

theorem steady_lowerAllowance (h : Steady s t) : Steady s (lowerAllowance t) := by
  unfold lowerAllowance
  exact .ite (steady_setPower h) h

theorem steady_startBeat (h : Steady s t) : Steady s (startBeat t) := by
  unfold startBeat
  exact .ite h (steady_setLights h)

theorem steady_goSafe {reason : EndReason} (h : Steady s t) : Steady s (goSafe reason t) :=
  steady_holdBridgeA (steady_releaseDrum (steady_endTripWaitB (steady_clearSteer h)))

/-- A change of the channels outside CUTOFF. -/
theorem steady_setLights_of_ne {x : Lights} (h : Steady s t) (lit : t.node.state ≠ .cutoff) : Steady s (t.setLights x) :=
  steady_setLights h fun _ cutoff => absurd cutoff lit

theorem steady_setFunctions {l : ImageLights} (h : Steady s t) (lit : t.node.state ≠ .cutoff) :
    Steady s (setFunctions l t) := by
  unfold setFunctions
  cases t.node.position with
  | none => exact h
  | some p => exact steady_setLights_of_ne h lit

/-! ## The outputs at rest -/

/-- Neither setting of bridge A drives, and bridge B is OFF: so each entry to a safe-output state leaves them. -/
structure AtRest (s : State) : Prop where
  nextA : drivesMode s.bridgeA.next.mode = false
  activeA : drivesMode s.bridgeA.active.mode = false
  nextB : s.bridgeB.next.mode = .off
  activeB : s.bridgeB.active.mode = .off

theorem AtRest.heldA (h : AtRest s) : HeldA s := ⟨allowsA_of_quiet h.nextA, allowsA_of_quiet h.activeA⟩

theorem AtRest.heldB (h : AtRest s) : HeldB s := ⟨fun off => absurd h.nextB off, fun off => absurd h.activeB off⟩

theorem AtRest.of_same (h : AtRest s) (bridgeA : t.bridgeA = s.bridgeA := by rfl) (bridgeB : t.bridgeB = s.bridgeB := by rfl) :
    AtRest t := ⟨bridgeA ▸ h.nextA, bridgeA ▸ h.activeA, bridgeB ▸ h.nextB, bridgeB ▸ h.activeB⟩

theorem atRest_holdBridgeA (hold : HoldIsSafe s) (nextB : s.bridgeB.next.mode = .off) (activeB : s.bridgeB.active.mode = .off) :
    AtRest (holdBridgeA s) := ⟨drivesMode_safeModeA (s := s) hold, drivesMode_safeModeA (s := s) hold, nextB, activeB⟩

theorem atRest_safeOutputs (hold : HoldIsSafe s) : AtRest (safeOutputs s) :=
  ⟨drivesMode_safeModeA hold, drivesMode_safeModeA hold, rfl, rfl⟩

theorem atRest_goSafe (reason : EndReason) (hold : HoldIsSafe s) : AtRest (goSafe reason s) := by
  have changes := goSafe_changes reason s
  exact (atRest_safeOutputs hold).of_same changes.bridgeA changes.bridgeB

theorem atRest_restBridges (hold : HoldIsSafe s) : AtRest (restBridges s) :=
  ⟨drivesMode_restModeA hold, drivesMode_restModeA hold, rfl, rfl⟩

end Sys2Proof.NodeControl
end

section
/-! SUPPORT. The CHECK sequence's operations within a step, and the entries to the node states. -/

namespace Sys2Proof.NodeControl

open Sys2Proof Sys2Proof.Machine Sys2Proof.Safety

variable {s t u : State}

/-! ## Withdrawals and sensors -/

/-- The fixed hold of a withdrawn bridge A is BRAKE or OFF (R145, R193). -/
theorem steady_fixHoldA {x : Monitor} (h : Steady s t) (quiet : ∀ m, x.holdA = some m → m = .brake ∨ m = .off)
    (position : x.position = t.monitor.position := by rfl) : Steady s (t.setMonitor x) :=
  h.trans
    { Steady.refl t with
      position
      hold := fun _ => quiet
      heldA := fun _ held => ⟨fun d => allowsA_of_same (held.1 d) rfl position, fun d => allowsA_of_same (held.2 d) rfl position⟩
      heldB := fun held => ⟨fun d => allowsB_of_same (held.1 d) rfl position, fun d => allowsB_of_same (held.2 d) rfl position⟩ }

theorem steady_withdrawA {result : CheckResult} (h : Steady s t) : Steady s (withdrawA result t) := by
  have held {x : Monitor} {c : Bool} (hx : x.holdA = some (if c then .brake else .off))
      (position : x.position = t.monitor.position) :
      Steady s (forceBridgeA (if c then .brake else .off) 0 (zeroDrive (t.setMonitor x))) := by
    refine steady_forceBridgeA (steady_zeroDrive (steady_fixHoldA h ?_ position)) ?_
    · rw [hx]
      cases c <;> simp
    · cases c <;> exact fun _ => allowsA_of_quiet rfl
  unfold withdrawA
  exact .ite (steady_setDrum (steady_offBridgeB (steady_closeOperation (held rfl rfl)))) (held rfl rfl)

theorem steady_withdrawB (h : Steady s t) : Steady s (withdrawB t) := by
  unfold withdrawB
  exact .ite (steady_setDrum (steady_offBridgeB (steady_setMonitor h))) (steady_offBridgeB (steady_setMonitor h))

/-- A channel put dark leaves the dark channels dark (R102, R183). -/
theorem cutoffDark_put {l : Lamp} (inv : CutoffDarkInv t) : CutoffDarkInv (t.setLights { t.lights with
    channels := t.lights.channels.put l { t.lights.channels.get l with staged := 0, active := 0 } }) := by
  intro cutoff m
  by_cases same : m = l
  · subst same
    intro unlit
    simp only [State.setLights_lights, Quad.get_put_self] at unlit ⊢
    obtain ⟨current, pending, _, _⟩ := inv cutoff m unlit
    exact ⟨current, pending, trivial, trivial⟩
  · simpa only [State.setLights_lights, Quad.get_put_other _ _ _ _ same] using inv cutoff m

theorem steady_withdrawLamp {l : Lamp} {current : Nat} (h : Steady s t) : Steady s (withdrawLamp l current t) :=
  steady_addFault (steady_setMonitor (steady_setLights h cutoffDark_put))

theorem steady_setSensor {x : Sensor} {v : SensorState} (h : Steady s t) : Steady s (setSensor x v t) := by
  cases x <;> exact steady_setMonitor h

theorem steady_failSensor {x : Sensor} {reading : Int} (h : Steady s t) : Steady s (failSensor x reading t) :=
  steady_addFault (steady_setSensor h)

theorem steady_thermalEffects {before : ThermalClass} (h : Steady s t) : Steady s (thermalEffects before t) := by
  have lowered : Steady s (if before = .normal ∧ thermalClass t ≠ .normal then lowerAllowance t else t) :=
    .ite (steady_lowerAllowance h) h
  unfold thermalEffects
  refine .ite ?_ lowered
  have shut := steady_shutBridgeA (steady_addFault (kind := .overtemp)
    (output := .sensor (if t.monitor.ts1.thermal = .shutdown then .ts1 else .die))
    (detail := (sensorOf (if t.monitor.ts1.thermal = .shutdown then .ts1 else .die) t.monitor).reading)
    (steady_offBridgeB lowered))
  have closed := steady_setDrum (d := .braked) (steady_closeOperation (reason := .fault) shut)
  dsimp only
  split
  · exact closed
  · exact closed
  · exact closed
  · exact steady_setDrum shut
  all_goals exact shut

theorem steady_checkSensor {x : Sensor} {reading : Int} (h : Steady s t) : Steady s (checkSensor x reading t) := by
  unfold checkSensor
  exact .ite (.ite (steady_setSensor h) (steady_failSensor h)) (steady_setSensor h)

theorem steady_temperatureStep (h : Steady s t) : Steady s (temperatureStep t) :=
  steady_thermalEffects (steady_checkSensor (steady_checkSensor h))

theorem steady_reachStep {st : CheckStep} (h : Steady s t) : Steady s (reachStep st t) := by
  unfold reachStep
  split
  · exact steady_setMonitor h
  · exact steady_temperatureStep (t := commitRatings t) (steady_setMonitor h)
  · exact h

/-! ## Across node states -/

/-- From `s` to `t` the invariants of O7 and O27 are kept, with what no command but UPTIME_TICK and POWER_ON_RESET changes
(R38, R39). -/
structure Lasting (s t : State) : Prop where
  pending : t.pending = s.pending
  now : t.now = s.now
  serial : t.node.serial = s.node.serial
  uptime : t.node.uptime = s.node.uptime
  image : ImageInv s → ImageInv t
  outputs : OutputsInv s → OutputsInv t
  dark : CutoffDarkInv s → CutoffDarkInv t

theorem Lasting.refl (s : State) : Lasting s s := ⟨rfl, rfl, rfl, rfl, id, id, id⟩

theorem Lasting.trans (h : Lasting s t) (k : Lasting t u) : Lasting s u where
  pending := k.pending.trans h.pending
  now := k.now.trans h.now
  serial := k.serial.trans h.serial
  uptime := k.uptime.trans h.uptime
  image := k.image ∘ h.image
  outputs := k.outputs ∘ h.outputs
  dark := k.dark ∘ h.dark

theorem imageInv_of_same (image : t.node.image = s.node.image) (inv : ImageInv s) : ImageInv t := by
  simpa only [ImageInv, image] using inv

theorem imageInv_of_none (image : s.node.image = none) : ImageInv s := fun _ hi => nomatch image.symm.trans hi

theorem holdIsSafe_of_none (holdA : s.monitor.holdA = none) : HoldIsSafe s := fun _ hm => nomatch holdA.symm.trans hm

theorem Steady.lasting (h : Steady s t) : Lasting s t where
  pending := h.pending
  now := h.now
  serial := h.serial
  uptime := h.uptime
  image := imageInv_of_same h.image
  outputs := h.outputs
  dark := h.dark

theorem Lasting.steady (h : Lasting s t) (k : Steady t u) : Lasting s u := h.trans k.lasting

/-- `t` is in a node state entered from `s`, with no CHECK step under way; of its outputs nothing is said yet. -/
structure Enters (st : NodeState) (s t : State) : Prop where
  pending : t.pending = s.pending
  now : t.now = s.now
  serial : t.node.serial = s.node.serial
  uptime : t.node.uptime = s.node.uptime
  image : t.node.image = s.node.image
  state : t.node.state = st
  idle : OutputsInv s → t.monitor.position = none
  hold : HoldIsSafe s → HoldIsSafe t

theorem Enters.steady {st : NodeState} (h : Enters st s t) (k : Steady t u) : Enters st s u where
  pending := k.pending.trans h.pending
  now := k.now.trans h.now
  serial := k.serial.trans h.serial
  uptime := k.uptime.trans h.uptime
  image := k.image.trans h.image
  state := k.state.trans h.state
  idle inv := k.position.trans (h.idle inv)
  hold := k.hold ∘ h.hold

/-- An entry is complete once its outputs are held as the state asks. -/
theorem Enters.lasting_of_held {st : NodeState} (h : Enters st s t) (heldA : HoldIsSafe s → HeldA t)
    (heldB : HoldIsSafe s → HeldB t) (dark : st = .cutoff → CutoffDarkInv t) : Lasting s t where
  pending := h.pending
  now := h.now
  serial := h.serial
  uptime := h.uptime
  image := imageInv_of_same h.image
  outputs inv := outputsInv_iff.2 ⟨by simp [h.idle inv], h.hold inv.holdSafe, heldA inv.holdSafe, heldB inv.holdSafe⟩
  dark _ cutoff := dark (h.state.symm.trans cutoff) cutoff

/-- The entry to a safe-output state. -/
theorem Enters.lasting {st : NodeState} (h : Enters st s t) (rest : HoldIsSafe s → AtRest t)
    (dark : st = .cutoff → CutoffDarkInv t) : Lasting s t :=
  h.lasting_of_held (fun hold => (rest hold).heldA) (fun hold => (rest hold).heldB) dark

/-- In RUN and FAILSAFE the outputs are free. -/
theorem Enters.lasting_of_mayDrive {st : NodeState} (h : Enters st s t) (drives : st = .run ∨ st = .failsafe) : Lasting s t := by
  have may : mayDrive t := by simpa only [mayDrive, h.state] using drives
  exact h.lasting_of_held (fun _ => ⟨fun _ => .inl may, fun _ => .inl may⟩) (fun _ => ⟨fun _ => .inl may, fun _ => .inl may⟩)
    (by rcases drives with rfl | rfl <;> nofun)

/-- All that a change of the node state brings with it (R26, R29, R96, R164, R180). -/
theorem moveTo_eq (st : NodeState) (s : State) : moveTo st s = { s with
    node := { s.node with state := st, staging := [], silenceTimer := none, defaultTimer := none, armWait := false }
    power := if isServing st then s.power else { s.power with allowance := 0, grants := Consumers.zero }
    winch := if isServing st then s.winch else { s.winch with winchTimer := none }
    lights := if isServing st then s.lights else { s.lights with brakeHold := 0 } } := by
  unfold moveTo
  cases isServing st <;> rfl

theorem enters_setMonitor {st : NodeState} {x : Monitor} (k : Steady (moveTo st s) t) (idle : OutputsInv s → x.position = none := by exact fun _ => rfl)
    (holdA : x.holdA = t.monitor.holdA := by rfl) : Enters st s (t.setMonitor x) where
  pending := k.pending.trans (by rw [moveTo_eq])
  now := k.now.trans (by rw [moveTo_eq])
  serial := k.serial.trans (by rw [moveTo_eq])
  uptime := k.uptime.trans (by rw [moveTo_eq])
  image := k.image.trans (by rw [moveTo_eq])
  state := k.state.trans (by rw [moveTo_eq])
  idle := idle
  hold safe m hm := k.hold (fun n hn => safe n (by rwa [moveTo_eq] at hn)) m (holdA ▸ hm)

theorem enters_abandonCheck (st : NodeState) (s : State) : Enters st s (abandonCheck (moveTo st s)) :=
  enters_setMonitor (.refl _)

/-- The entry to a state without driven outputs: each goes safe. -/
theorem lasting_goSafe {st : NodeState} {reason : EndReason} (e : Enters st s t) (lit : st ≠ .cutoff) :
    Lasting s (goSafe reason t) :=
  (e.steady (steady_goSafe (.refl t))).lasting (fun hold => atRest_goSafe reason (e.hold hold)) fun cutoff => absurd cutoff lit

/-! ## The entries -/

/-- The entry to LISTEN and to CONFLICT with its outputs safe, before what else each brings. -/
def enteredSafe (st : NodeState) (s : State) : State := goSafe .fault (abandonCheck (moveTo st s))

theorem enters_enteredSafe (st : NodeState) (s : State) : Enters st s (enteredSafe st s) :=
  (enters_abandonCheck st s).steady (steady_goSafe (.refl _))

theorem steady_enterListen (s : State) : Steady (enteredSafe .listen s) (enterListen s) := by
  have lit : (enteredSafe .listen s).node.state ≠ .cutoff := by
    rw [(enters_enteredSafe .listen s).state]
    nofun
  exact steady_startBeat (steady_setFunctions (steady_setPower (steady_setNode (steady_clearIntake (.refl _)))) lit)

theorem enterListen_state (s : State) : (enterListen s).node.state = .listen :=
  (steady_enterListen s).state.trans (enters_enteredSafe .listen s).state

theorem lasting_enterListen (h : Lasting s t) : Lasting s (enterListen t) :=
  (h.trans (lasting_goSafe (reason := .fault) (enters_abandonCheck .listen t) nofun)).steady (steady_enterListen t)

theorem steady_enterConflict (cause : ConflictCause) (strapCode : Nat) (s : State) :
    Steady (enteredSafe .conflict s) (enterConflict cause strapCode s) :=
  steady_startBeat (steady_placeNotice (steady_clearIntake (steady_addFaultIn (steady_setNode (.refl _)))))

theorem enterConflict_state (cause : ConflictCause) (strapCode : Nat) (s : State) :
    (enterConflict cause strapCode s).node.state = .conflict :=
  (steady_enterConflict cause strapCode s).state.trans (enters_enteredSafe .conflict s).state

theorem lasting_enterConflict {cause : ConflictCause} {strapCode : Nat} (h : Lasting s t) :
    Lasting s (enterConflict cause strapCode t) :=
  (h.trans (lasting_goSafe (reason := .fault) (enters_abandonCheck .conflict t) nofun)).steady
    (steady_enterConflict cause strapCode t)

/-- Every channel is dark, and only MARKER and TAILBRAKE have a pattern pending (R176). -/
theorem cutoffDark_darkenForCutoff (s : State) : CutoffDarkInv (darkenForCutoff s) := by
  intro _ l unlit
  simp only [darkenForCutoff, State.setLights_lights, TrailBus.Quad_get_ofLamp, litInCutoff, not_or] at unlit ⊢
  obtain ⟨noMarker, noTailbrake⟩ := unlit
  refine ⟨trivial, if_neg ?_, trivial, trivial⟩
  unfold functionOf
  split
  · simp
  · split
    · simp
    · simp [noMarker, noTailbrake]

theorem steady_darkenForCutoff (h : Steady s t) : Steady s (darkenForCutoff t) :=
  steady_setLights h fun _ => cutoffDark_darkenForCutoff t

/-- The entry to CUTOFF with its outputs safe and its channels dark, before the cause is recorded (R101, R102). -/
def darkened (s : State) : State :=
  darkenForCutoff (startReportTimer (clearIntake (goSafe .cutoff (abandonCheck (moveTo .cutoff s)))))

theorem enters_darkened (s : State) : Enters .cutoff s (darkened s) :=
  (enters_abandonCheck .cutoff s).steady
    (steady_darkenForCutoff (steady_startReportTimer (steady_clearIntake (steady_goSafe (.refl _)))))

theorem startReportTimer_frame (s : State) : startReportTimer s = s.setNode (startReportTimer s).node := by
  unfold startReportTimer
  split <;> rfl

theorem lasting_darkened (s : State) : Lasting s (darkened s) := by
  have e := enters_abandonCheck .cutoff s
  refine (enters_darkened s).lasting (fun hold => ?_) fun _ => cutoffDark_darkenForCutoff _
  unfold darkened
  rw [startReportTimer_frame]
  exact (atRest_goSafe .cutoff (e.hold hold)).of_same

theorem steady_enterCutoff (cause : CutoffCause) (acts : ¬ (s.node.state = .strap ∨ s.node.state = .cutoff)) :
    Steady (darkened s) (enterCutoff cause s) := by
  unfold enterCutoff
  rw [if_neg acts]
  exact .ite (steady_requestBreak (steady_addFaultIn (steady_setPower (steady_setNode (.refl _)))))
    (steady_addFaultIn (steady_setPower (steady_setNode (.refl _))))

/-- In STRAP and in CUTOFF a cause of CUTOFF changes nothing (R101). -/
theorem enterCutoff_stays (cause : CutoffCause) (stays : s.node.state = .strap ∨ s.node.state = .cutoff) :
    enterCutoff cause s = s := if_pos stays

theorem lasting_enterCutoff {cause : CutoffCause} (h : Lasting s t) : Lasting s (enterCutoff cause t) := by
  by_cases stays : t.node.state = .strap ∨ t.node.state = .cutoff
  · rwa [enterCutoff_stays cause stays]
  · exact (h.trans (lasting_darkened t)).steady (steady_enterCutoff cause stays)

/-- RUN and FAILSAFE are entered with no CHECK step under way. -/
theorem enters_moveTo (st : NodeState) (idle : OutputsInv s → s.monitor.position = none) : Enters st s (moveTo st s) :=
  enters_setMonitor (x := (moveTo st s).monitor) (.refl _) fun inv => by rw [moveTo_eq, idle inv]

end Sys2Proof.NodeControl
end

section
/-! SUPPORT. The entries to SAFE, CHECK, RUN and FAILSAFE, the CHECK sequence from step to step, an image that comes into
force and the resets. -/

namespace Sys2Proof.NodeControl

open Sys2Proof Sys2Proof.Machine Sys2Proof.Safety

variable {s t u : State}

/-! ## Which node states a command leads to -/

/-- A lasting change that enters RUN from no other state, and leaves CUTOFF not at all and CONFLICT for CUTOFF alone (R31,
R39, R102). The commands that may do more are POWER_ON_RESET, ASSIGN and COMMAND. -/
structure Goes (s t : State) : Prop extends Lasting s t where
  run : t.node.state = .run → s.node.state = .run
  cutoff : OutputsInv s → s.node.state = .cutoff → t.node.state = .cutoff
  conflict : OutputsInv s → s.node.state = .conflict → t.node.state = .conflict ∨ t.node.state = .cutoff

/-- A change that stays in the node state. -/
theorem Lasting.goes (h : Lasting s t) (state : t.node.state = s.node.state) : Goes s t where
  toLasting := h
  run := state ▸ id
  cutoff _ := state ▸ id
  conflict _ := state ▸ .inl

/-- An entry to a state other than RUN, from one other than CUTOFF and CONFLICT. -/
theorem Lasting.goes_of_entry (h : Lasting s t) (run : t.node.state ≠ .run)
    (left : OutputsInv s → s.node.state ≠ .cutoff ∧ s.node.state ≠ .conflict) : Goes s t where
  toLasting := h
  run e := absurd e run
  cutoff inv e := absurd e (left inv).1
  conflict inv e := absurd e (left inv).2

theorem Steady.goes (h : Steady s t) : Goes s t := h.lasting.goes h.state

theorem Goes.refl (s : State) : Goes s s := (Steady.refl s).goes

theorem Goes.trans (h : Goes s t) (k : Goes t u) : Goes s u where
  toLasting := h.toLasting.trans k.toLasting
  run := h.run ∘ k.run
  cutoff inv e := k.cutoff (h.outputs inv) (h.cutoff inv e)
  conflict inv e := (h.conflict inv e).elim (k.conflict (h.outputs inv)) fun c => .inr (k.cutoff (h.outputs inv) c)

theorem Goes.steady (h : Goes s t) (k : Steady t u) : Goes s u := h.trans k.goes

theorem Goes.ite {c : Prop} [Decidable c] (h : Goes s t) (k : Goes s u) : Goes s (if c then t else u) := by
  split
  · exact h
  · exact k

/-- A change of the outputs and of the CHECK step alone, to what the invariant lets them be. -/
theorem Goes.outputs_only (h : Goes s t) (outputs : OutputsInv s → OutputsInv u)
    (pending : u.pending = t.pending := by rfl) (now : u.now = t.now := by rfl) (node : u.node = t.node := by rfl)
    (channels : u.lights.channels = t.lights.channels := by rfl) : Goes s u where
  pending := pending.trans h.pending
  now := now.trans h.now
  serial := node ▸ h.serial
  uptime := node ▸ h.uptime
  image inv := imageInv_of_same (by rw [node]) (h.image inv)
  outputs := outputs
  dark inv := by simpa only [CutoffDarkInv, node, channels] using h.dark inv
  run := node ▸ h.run
  cutoff := node ▸ h.cutoff
  conflict := node ▸ h.conflict

/-! ## CUTOFF, RUN, FAILSAFE and SAFE -/

/-- Entering CUTOFF leads there, but from STRAP, which it does not leave. -/
theorem enterCutoff_state (cause : CutoffCause) (s : State) :
    (enterCutoff cause s).node.state = if s.node.state = .strap then .strap else .cutoff := by
  by_cases stays : s.node.state = .strap ∨ s.node.state = .cutoff
  · rw [enterCutoff_stays cause stays]
    rcases stays with e | e <;> rw [e] <;> rfl
  · rw [(steady_enterCutoff cause stays).state, (enters_darkened s).state, if_neg fun e => stays (.inl e)]

theorem goes_enterCutoff {cause : CutoffCause} (h : Goes s t) : Goes s (enterCutoff cause t) := by
  refine h.trans ⟨lasting_enterCutoff (.refl t), ?_, ?_, ?_⟩
  all_goals rw [enterCutoff_state]
  · split <;> nofun
  · exact fun _ e => by rw [e]; rfl
  · exact fun _ e => by rw [e]; exact .inr rfl

/-- RUN is entered with the ramp at 0 and no CHECK step under way (R73). -/
theorem lasting_enterRun (h : Lasting s t) (idle : OutputsInv t → t.monitor.position = none) : Lasting s (enterRun t) :=
  h.trans (((enters_moveTo .run idle).steady
    (steady_setIntake (steady_zeroDrive (steady_clearLoss (.refl _))))).lasting_of_mayDrive (.inl rfl))

theorem enterFailsafe_steady (s : State) : Steady (moveTo .failsafe s) (enterFailsafe s) := by
  have cleared {x : Intake} : Steady (moveTo .failsafe s) ((clearLoss (moveTo .failsafe s)).setIntake x) :=
    steady_setIntake (steady_clearLoss (.refl _))
  unfold enterFailsafe
  exact steady_raiseEvent (.ite (steady_releaseDrum (steady_brakeBridgeA cleared)) cleared)

theorem lasting_enterFailsafe (h : Lasting s t) (idle : OutputsInv t → t.monitor.position = none) : Lasting s (enterFailsafe t) :=
  h.trans (((enters_moveTo .failsafe idle).steady (enterFailsafe_steady t)).lasting_of_mayDrive (.inr rfl))

theorem enterFailsafe_state (s : State) : (enterFailsafe s).node.state = .failsafe := by
  rw [(enterFailsafe_steady s).state, moveTo_eq]

/-- The outputs safe in SAFE, before its first WINCH frame is placed (R27, R126). -/
def safeEntered (s : State) : State :=
  holdBridgeA (releaseDrum .fault (endTripWaitB (offBridgeB (clearLoss (abandonCheck (moveTo .safe s))))))

theorem enterSafe_eq (s : State) :
    enterSafe s = if roleOf (safeEntered s) = .winch then placeWinch (safeEntered s) else safeEntered s := rfl

theorem enters_safeEntered (s : State) : Enters .safe s (safeEntered s) :=
  (enters_abandonCheck .safe s).steady
    (steady_holdBridgeA (steady_releaseDrum (steady_endTripWaitB (steady_offBridgeB (steady_clearLoss (.refl _))))))

theorem goes_enterListen (h : Goes s t) (cutoff : s.node.state ≠ .cutoff) (conflict : s.node.state ≠ .conflict) :
    Goes s (enterListen t) :=
  (lasting_enterListen h.toLasting).goes_of_entry (by rw [enterListen_state]; nofun) fun _ => ⟨cutoff, conflict⟩

theorem goes_enterConflict {cause : ConflictCause} {strapCode : Nat} (h : Goes s t) (cutoff : s.node.state ≠ .cutoff) :
    Goes s (enterConflict cause strapCode t) := by
  refine ⟨lasting_enterConflict h.toLasting, ?_, fun _ e => absurd e cutoff, fun _ _ => .inl (enterConflict_state ..)⟩
  rw [enterConflict_state]
  nofun

theorem releaseDrum_bridgeB_off {reason : EndReason} (next : s.bridgeB.next.mode = .off) (active : s.bridgeB.active.mode = .off) :
    (releaseDrum reason s).bridgeB.next.mode = .off ∧ (releaseDrum reason s).bridgeB.active.mode = .off := by
  by_cases winch : roleOf s = .winch
  · have released := (releaseDrum_of_winch reason winch).bridgeB
    rw [released]
    exact ⟨rfl, rfl⟩
  · rw [releaseDrum_of_other reason winch]
    exact ⟨next, active⟩

theorem atRest_safeEntered (hold : HoldIsSafe s) : AtRest (safeEntered s) := by
  have e := enters_abandonCheck .safe s
  have released := (steady_releaseDrum (reason := .fault) (steady_endTripWaitB (steady_offBridgeB (steady_clearLoss
    (.refl (abandonCheck (moveTo .safe s))))))).hold (e.hold hold)
  obtain ⟨next, active⟩ := releaseDrum_bridgeB_off (reason := .fault)
    (s := endTripWaitB (offBridgeB (clearLoss (abandonCheck (moveTo .safe s))))) rfl rfl
  exact atRest_holdBridgeA released next active

theorem lasting_enterSafe (h : Lasting s t) : Lasting s (enterSafe t) := by
  have entered := (enters_safeEntered t).lasting atRest_safeEntered nofun
  rw [enterSafe_eq]
  exact (h.trans entered).steady (.ite (steady_placeWinch (.refl _)) (.refl _))

theorem enterSafe_state (s : State) : (enterSafe s).node.state = .safe := by
  rw [enterSafe_eq]
  exact (Steady.ite (steady_placeWinch (.refl _)) (.refl _)).state.trans (enters_safeEntered s).state

/-! ## The CHECK sequence -/

/-- In CHECK between two steps, the outputs at rest. -/
structure Between (s : State) : Prop where
  outputs : OutputsInv s
  check : s.node.state = .check
  idle : s.monitor.position = none

theorem Between.steady (b : Between s) (h : Steady s t) : Between t :=
  ⟨h.outputs b.outputs, h.state.trans b.check, h.position.trans b.idle⟩

/-- The outputs are as a step lets them be. -/
def ReadyFor (st : CheckStep) (s : State) : Prop := OutputsInv (s.setMonitor { s.monitor with position := some st })

/-- Any step may follow the rest between two steps. -/
theorem Between.ready (b : Between s) (st : CheckStep) : ReadyFor st s := by
  have undriven : ¬ mayDrive s := by simp [mayDrive, b.check]
  have restA : ¬ allowsA s := by simp [allowsA, undriven, b.idle]
  have restB : ¬ allowsB s := by simp [allowsB, undriven, b.idle, drivesBStep]
  exact ⟨fun _ => b.check, b.outputs.holdSafe, fun d => absurd (b.outputs.nextA d) restA,
    fun d => absurd (b.outputs.activeA d) restA, fun d => absurd (b.outputs.nextB d) restB,
    fun d => absurd (b.outputs.activeB d) restB⟩

/-- The step under way may go on. -/
theorem readyFor_self {st : CheckStep} (inv : OutputsInv s) (position : s.monitor.position = some st) : ReadyFor st s := by
  unfold ReadyFor
  rwa [← position]

/-- A step comes under way. -/
theorem goes_setStep {st : CheckStep} {x : Monitor} (h : Goes s t) (ready : OutputsInv s → ReadyFor st t)
    (position : x.position = some st := by rfl) (holdA : x.holdA = t.monitor.holdA := by rfl) : Goes s (t.setMonitor x) := by
  have same : Steady (t.setMonitor { t.monitor with position := some st }) (t.setMonitor x) :=
    (Steady.refl _).aside (position := position) (holdA := holdA)
  exact h.outputs_only fun inv => same.outputs (ready inv)

/-- A step drives only its own bridge (R188 to R192). -/
theorem steady_driveStep {st : CheckStep} (h : Steady s t) (position : t.monitor.position = some st) :
    Steady s (driveStep st t) := by
  cases st
  case loadA => exact steady_forceBridgeA h fun _ _ => .inr position
  case loadB => exact steady_forceBridgeB h fun _ => .inr (by rw [position]; trivial)
  case sweepLeft => exact steady_forceBridgeB h fun _ => .inr (by rw [position]; trivial)
  case sweepRight => exact steady_forceBridgeB h fun _ => .inr (by rw [position]; trivial)
  case sweepReturn => exact steady_forceBridgeB h fun _ => .inr (by rw [position]; trivial)
  case pullDownA => exact steady_forceBridgeA h fun _ => nofun
  case pullUpA => exact steady_forceBridgeA h fun _ => nofun
  case pullDownB => exact steady_forceBridgeB h nofun
  case pullUpB => exact steady_forceBridgeB h nofun
  all_goals exact h

theorem goes_beginStep {st : CheckStep} (h : Goes s t) (ready : OutputsInv s → ReadyFor st t) : Goes s (beginStep st t) :=
  (goes_setStep h ready).steady (steady_driveStep (.refl _) rfl)

theorem goes_enterSafe (h : Goes s t) (check : OutputsInv s → t.node.state = .check) : Goes s (enterSafe t) := by
  refine ⟨lasting_enterSafe h.toLasting, fun run => ?_, fun inv cutoff => ?_, fun inv conflict => ?_⟩
  · rw [enterSafe_state] at run
    cases run
  · cases (check inv).symm.trans (h.cutoff inv cutoff)
  · rcases h.conflict inv conflict with e | e <;> cases (check inv).symm.trans e

/-- The sequence goes on, step by step (R186). -/
theorem goes_advance {steps : List CheckStep} (h : Goes s t) (between : OutputsInv s → Between t) :
    Goes s (advance steps t) := by
  induction steps generalizing t with
  | nil => exact goes_enterSafe h fun inv => (between inv).check
  | cons st rest ih =>
    have reach : Steady t (reachStep st t) := steady_reachStep (.refl t)
    have reached := h.steady reach
    have still (inv : OutputsInv s) : Between (reachStep st t) := (between inv).steady reach
    have ready (inv : OutputsInv s) : ReadyFor st (reachStep st t) := (still inv).ready st
    unfold advance
    exact .ite (ih reached still) (.ite (ih reached still) (.ite (goes_setStep reached ready) (goes_beginStep reached ready)))

/-- Both bridges at rest, between two steps (R186). -/
theorem between_restBridges {x : Monitor} (inv : OutputsInv s) (check : s.node.state = .check)
    (idle : x.position = none := by rfl) (holdA : x.holdA = s.monitor.holdA := by rfl) :
    Between (restBridges (s.setMonitor x)) := by
  have hold : HoldIsSafe (s.setMonitor x) := fun m hm => inv.holdSafe m (holdA ▸ hm)
  exact ⟨outputsInv_iff.2 ⟨fun _ => check, hold, (atRest_restBridges hold).heldA, (atRest_restBridges hold).heldB⟩, check, idle⟩

/-- The step under way ends and the sequence goes on (R186). -/
theorem goes_completeStep {st : CheckStep} (h : Goes s t) (check : OutputsInv s → t.node.state = .check) :
    Goes s (completeStep st t) := by
  have between (inv : OutputsInv s) : Between (restBridges (t.setMonitor { t.monitor with position := none, waiting := false })) :=
    between_restBridges (h.outputs inv) (check inv)
  exact goes_advance (h.outputs_only fun inv => (between inv).outputs) between

/-- The outputs safe in CHECK, before the sequence starts (R28, R186). -/
def checkEntered (s : State) : State :=
  let s1 := clearIntake (goSafe .fault (moveTo .check s))
  let s2 := s1.setMonitor { s1.monitor with record := CheckRecord.untested true, waiting := false }
  s2.setMonitor { s2.monitor with position := none }

theorem enters_checkEntered (s : State) : Enters .check s (checkEntered s) :=
  enters_setMonitor (steady_setMonitor (steady_clearIntake (steady_goSafe (.refl _))))

theorem between_checkEntered (inv : OutputsInv s) : Between (checkEntered s) := by
  have e := enters_checkEntered s
  have hold : HoldIsSafe (moveTo .check s) := by
    rw [moveTo_eq]
    exact inv.holdSafe
  have rest : AtRest (checkEntered s) := (atRest_goSafe .fault hold).of_same
  exact ⟨outputsInv_iff.2 ⟨fun _ => e.state, e.hold inv.holdSafe, rest.heldA, rest.heldB⟩, e.state, e.idle inv⟩

theorem goes_enterCheck (h : Goes s t) (cutoff : s.node.state ≠ .cutoff) (conflict : s.node.state ≠ .conflict) :
    Goes s (enterCheck t) := by
  have e := enters_checkEntered t
  have entered : Lasting s (checkEntered t) :=
    h.toLasting.trans ⟨e.pending, e.now, e.serial, e.uptime, imageInv_of_same e.image,
      fun inv => (between_checkEntered inv).outputs, fun _ c => by cases e.state.symm.trans c⟩
  exact goes_advance (entered.goes_of_entry (by rw [e.state]; nofun) fun _ => ⟨cutoff, conflict⟩)
    fun inv => between_checkEntered (h.outputs inv)

/-! ## An image comes into force; the resets -/

/-- The image in force lies in its ranges and meets the relations (R36). -/
def InRanges (i : Image) : Prop := PowerRanges i ∧ MotionRanges i ∧ ImageRelations i

/-- The image changes, the node state stands. -/
theorem lasting_setImage {x : Node} (ranges : ∀ i, x.image = some i → InRanges i.fields) (state : x.state = s.node.state)
    (serial : x.serial = s.node.serial := by rfl) (uptime : x.uptime = s.node.uptime := by rfl) : Lasting s (s.setNode x) where
  pending := rfl
  now := rfl
  serial := serial
  uptime := uptime
  image _ := ranges
  outputs inv :=
    { stepInCheck := fun h => state.trans (inv.stepInCheck h)
      holdSafe := inv.holdSafe
      nextA := fun d => allowsA_of_same (inv.nextA d) state rfl
      activeA := fun d => allowsA_of_same (inv.activeA d) state rfl
      nextB := fun d => allowsB_of_same (inv.nextB d) state rfl
      activeB := fun d => allowsB_of_same (inv.activeB d) state rfl }
  dark inv cutoff := inv (state.symm.trans cutoff)

theorem goes_applyImage {img : ImageInForce} (h : Goes s t) (ranges : InRanges img.fields)
    (lit : t.node.state ≠ .cutoff) : Goes s (applyImage img t) := by
  have forced {b : Bool} : Goes t (t.setNode { t.node with image := some img, staging := [], packMonitor := b }) :=
    Lasting.goes (lasting_setImage (fun i hi => by cases hi; exact ranges) rfl) rfl
  have started {x : Node} {d : Drive} {p : Power} (state : x.state = t.node.state) :
      Steady (t.setNode x) (clearMarks ((setFunctions img.fields.lights ((t.setNode x).setDrive d)).setPower p)) :=
    steady_clearMarks (steady_setPower (steady_setFunctions (steady_setDrive (.refl _)) (state ▸ lit)))
  unfold applyImage
  exact (h.trans forced).steady (.ite (steady_holdBridgeA (steady_setWinch (started rfl))) (started rfl))

/-- RESTART puts every block in its reset state, the outputs safe and the channels dark (Table 2-7). -/
theorem lasting_restartBlocks (h : Lasting s t) : Lasting s (restartBlocks t) := by
  have quiet : drivesMode (safeModeA (blocksReset t)) = false := drivesMode_safeModeA (holdIsSafe_of_none rfl)
  have rest : AtRest (restartBlocks t) := by
    rw [restartBlocks_eq]
    exact ⟨quiet, quiet, rfl, rfl⟩
  refine h.trans ?_
  rw [restartBlocks_eq] at rest ⊢
  refine ⟨by rfl, by rfl, by rfl, by rfl, fun _ => imageInv_of_none rfl, fun _ => ?_, fun _ _ l _ => ?_⟩
  · exact outputsInv_iff.2 ⟨nofun, holdIsSafe_of_none rfl, rest.heldA, rest.heldB⟩
  · cases l <;> exact ⟨rfl, rfl, rfl, rfl⟩

end Sys2Proof.NodeControl
end

section
/-! SUPPORT. The meaning of every command in the relations of this part, unit by unit, in the order of `exec`: the bus port
to the command intake. -/

namespace Sys2Proof.NodeControl

open Sys2Proof Sys2Proof.Machine Sys2Proof.Safety

variable {s t u : State}

/-! ## Answers -/

/-- The command goes on to a next state, which `Goes` describes. -/
def AnswerGoes (s : State) (a : Answer) : Prop := ∃ t, a = .next t ∧ Goes s t

theorem AnswerGoes.next (h : Goes s t) : AnswerGoes s (.next t) := ⟨t, rfl, h⟩

theorem AnswerGoes.done (h : Goes s t) : AnswerGoes s (done t) := .next (h.steady (steady_settle (.refl t)))

/-- A command that stays in the node state. -/
theorem AnswerGoes.stay (h : Steady s t) : AnswerGoes s (.next t) := .next h.goes

theorem AnswerGoes.stay_done (h : Steady s t) : AnswerGoes s (Machine.done t) := .stay (steady_settle h)

/-- A command whose occasion is absent. -/
theorem AnswerGoes.idle (s : State) : AnswerGoes s (.next s) := .stay (.refl s)

theorem AnswerGoes.ite {a b : Answer} {c : Prop} [Decidable c] (h : AnswerGoes s a) (k : AnswerGoes s b) :
    AnswerGoes s (if c then a else b) := by
  split
  · exact h
  · exact k

/-! ## The bus port (spec 01) -/

theorem answerGoes_busIdle (s : State) : AnswerGoes s (execBusIdle s) := .stay (steady_setRx (.refl s))

theorem answerGoes_frameStart (s : State) : AnswerGoes s (execFrameStart s) := .stay (steady_setRx (.refl s))

theorem steady_countUnless {exempt : Bool} {count : State → State} (h : Steady s t) (hc : Steady s (count t)) :
    Steady s (countUnless exempt count t) := .ite h hc

theorem steady_countFraming (h : Steady s t) : Steady s (countFraming t) := steady_countBus h

theorem steady_countFormat (h : Steady s t) : Steady s (countFormat t) := steady_countBus h

theorem steady_countFailure {how : RxFail} (h : Steady s t) : Steady s (countFailure how t) := by
  cases how
  case startPayloadOrCrc => exact steady_countFormat h
  case lengthAbove12 => exact steady_countFormat h
  all_goals exact steady_countFraming h

theorem answerGoes_receptionFailed (how : RxFail) (s : State) : AnswerGoes s (execReceptionFailed how s) := by
  unfold execReceptionFailed
  exact .ite (.stay (steady_setRx (steady_countUnless (.refl s) (steady_countFailure (.refl s))))) (.idle s)

theorem steady_enqueue {f : RxFrame} (h : Steady s t) : Steady s (enqueue f t) := by
  unfold enqueue
  exact .ite (steady_setBus h) (steady_countBus h)

theorem steady_disposeFrame {echo : Bool} {kind : FrameKind} {sender : Nat} {payload : List Byte} (h : Steady s t) :
    Steady s (disposeFrame echo kind sender payload t) := by
  unfold disposeFrame
  exact .ite h (.ite h (.ite h (steady_enqueue h)))

theorem answerGoes_frameReceived (bytes : List Byte) (s : State) : AnswerGoes s (execFrameReceived bytes s) := by
  unfold execFrameReceived
  refine .ite ?_ (.idle s)
  dsimp only
  split
  · exact .stay (steady_countUnless (steady_setRx (.refl s)) (steady_countBus (steady_setRx (.refl s))))
  · exact .stay (steady_countUnless (steady_setRx (.refl s)) (steady_countBus (steady_setRx (.refl s))))
  · exact .stay (steady_disposeFrame (steady_setRx (.refl s)))

theorem answerGoes_breakRecognised (s : State) : AnswerGoes s (execBreakRecognised s) := by
  unfold execBreakRecognised
  exact .ite (.stay (steady_setRx (.refl s))) (.done (goes_enterCutoff (steady_setRx (.refl s)).goes))

theorem answerGoes_attemptStart (s : State) : AnswerGoes s (execAttemptStart s) := by
  unfold execAttemptStart
  refine .ite ?_ (.idle s)
  split
  · exact .idle s
  · split
    · exact .idle s
    · exact .stay (steady_setTx (.refl s))

theorem steady_loseAttempt {k : TxKind} (h : Steady s t) : Steady s (loseAttempt k t) := by
  have lost : Steady s (setSlot k (t.bus.slots.get k).lose.1 (clearAttempt t)) := steady_setSlot (steady_setTx h)
  unfold loseAttempt
  exact .ite (steady_countBus lost) lost

theorem answerGoes_arbitrationLost (s : State) : AnswerGoes s (execArbitrationLost s) := by
  unfold execArbitrationLost
  split
  · exact .idle s
  · exact .stay (steady_loseAttempt (.refl s))

theorem answerGoes_lineFault (s : State) : AnswerGoes s (execLineFault s) := by
  unfold execLineFault
  split
  · exact .idle s
  · exact .stay (steady_setRx (steady_setBus (steady_countBus (steady_loseAttempt (.refl s)))))

theorem answerGoes_collision (s : State) : AnswerGoes s (execCollision s) := by
  unfold execCollision
  split
  · exact .idle s
  next k _ =>
    have collided {sl : Slot} : Steady s (countCollision (setSlot k sl (clearAttempt s))) :=
      steady_countBus (steady_setSlot (steady_setTx (.refl s)))
    exact .stay (steady_setRx (.ite (steady_countBus collided) collided))

theorem answerGoes_backoffExpiry (k : TxKind) (s : State) : AnswerGoes s (execBackoffExpiry k s) :=
  .stay (steady_setSlot (.refl s))

theorem steady_completeAttempt (h : Steady s t) : Steady s (completeAttempt t) :=
  steady_setRx (steady_setBus (steady_finishAttempt h))

theorem answerGoes_breakEnd (s : State) : AnswerGoes s (execBreakEnd s) := .stay (steady_setTx (.refl s))

/-! ## The light sequencer (spec 09) -/

/-- Nothing shown, and nothing to come. -/
def DarkChannel (c : Channel) : Prop := c.current = .off ∧ c.pending = none ∧ c.staged = 0 ∧ c.active = 0

/-- A change of the channels by lamp, which keeps a dark one dark in CUTOFF. -/
theorem steady_mapChannels {f : Lamp → Channel → Channel} (h : Steady s t) (function : ∀ l c, (f l c).function = c.function)
    (dark : ∀ l, t.node.state = .cutoff → ¬ litInCutoff (t.lights.channels.get l) → DarkChannel (t.lights.channels.get l) →
      DarkChannel (f l (t.lights.channels.get l))) : Steady s (mapChannels f t) := by
  refine steady_setLights h fun inv cutoff l unlit => ?_
  rw [State.setLights_lights, TrailBus.Quad_get_ofLamp] at unlit ⊢
  rw [litInCutoff, function] at unlit
  exact dark l cutoff unlit (inv cutoff l unlit)

/-- In CUTOFF no display is wanted but on MARKER and TAILBRAKE (R176). -/
theorem wantedDisplay_unlit {l : Lamp} (cutoff : s.node.state = .cutoff) (unlit : ¬ litInCutoff (s.lights.channels.get l)) :
    wantedDisplay s l = .off := by
  have unlitFunction : functionOf s l ≠ some .marker ∧ functionOf s l ≠ some .tailbrake := by
    unfold functionOf
    split
    · simp
    · split
      · simp
      · exact not_or.1 unlit
  unfold wantedDisplay
  rw [cutoff]
  cases hf : functionOf s l with
  | none => rfl
  | some f =>
    rw [hf] at unlitFunction
    cases f <;> simp at unlitFunction ⊢

theorem promote_dark {c : Channel} (dark : DarkChannel c) : c.promote = c := by
  unfold Channel.promote
  rw [dark.2.1]

theorem stageLevel_dark (s : State) (l : Lamp) {c : Channel} (beat epoch : Nat) (dark : c.current = .off) :
    stageLevel s l c beat epoch = 0 := by
  have step : stepOf c.current beat epoch = 0 := by rw [dark]; rfl
  unfold stageLevel dimmed
  rw [step]
  split
  · dsimp only
    split <;> simp
  · rfl

theorem steady_resolveChannels (h : Steady s t) : Steady s (resolveChannels t) := by
  have held : Steady s (t.setLights { t.lights with brakeHold := brakeHoldNext t }) := steady_setLights h
  unfold resolveChannels
  refine steady_mapChannels held (fun l c => ?_) fun l cutoff unlit dark => ?_
  · rw [TrailBus.want_eq]
  · rw [wantedDisplay_unlit cutoff unlit]
    obtain ⟨current, _, staged, active⟩ := dark
    unfold Channel.want
    split
    · exact ⟨rfl, rfl, staged, active⟩
    · exact ⟨rfl, rfl, staged, active⟩

theorem steady_stageChannels (h : Steady s t) : Steady s (stageChannels t) := by
  unfold stageChannels
  refine steady_mapChannels h (fun l c => ?_) fun l _ _ dark => ?_
  · dsimp only
    split
    · rw [TrailBus.promote_eq]
    · rfl
  · have same : (if nextBeat t.lights.beat = 0 then (t.lights.channels.get l).promote else t.lights.channels.get l) =
        t.lights.channels.get l := by rw [promote_dark dark, ite_self]
    dsimp only
    rw [same]
    exact ⟨dark.1, dark.2.1, stageLevel_dark _ _ _ _ dark.1, dark.2.2.2⟩

theorem steady_restartCycle (h : Steady s t) : Steady s (restartCycle t) := by
  refine steady_stageChannels (steady_mapChannels (steady_resolveChannels (steady_setLights h)) (fun l c => ?_)
    fun l _ _ dark => ?_)
  · rw [TrailBus.promote_eq]
  · rw [promote_dark dark]
    exact ⟨dark.1, dark.2.1, dark.2.2.1, stageLevel_dark _ _ _ _ dark.1⟩

theorem steady_wrapCycle (h : Steady s t) : Steady s (wrapCycle t) := by
  unfold wrapCycle
  exact .ite (steady_placeFrame (steady_setLights h)) (steady_setLights h)

theorem steady_promoteAtWrap (h : Steady s t) : Steady s (promoteAtWrap t) := by
  refine steady_mapChannels h (fun l c => ?_) fun l _ _ dark => ?_
  · dsimp only
    split
    · rw [TrailBus.promote_eq]
    · rfl
  · rw [dark.2.1]
    exact dark

theorem steady_beatStep (h : Steady s t) : Steady s (beatStep t) := by
  have applied : Steady s (mapChannels (fun _ c => { c with active := c.staged }) t) :=
    steady_mapChannels h (fun _ _ => rfl) fun _ _ _ dark => ⟨dark.1, dark.2.1, dark.2.2.1, dark.2.2.1⟩
  exact steady_stageChannels (steady_resolveChannels (steady_setLights
    (.ite (steady_promoteAtWrap (steady_wrapCycle applied)) (steady_setLights applied))))

theorem answerGoes_attemptComplete (s : State) : AnswerGoes s (execAttemptComplete s) := by
  unfold execAttemptComplete
  split
  · exact .idle s
  · exact .stay (.ite (steady_restartCycle (steady_completeAttempt (.refl s))) (steady_completeAttempt (.refl s)))

theorem answerGoes_beatEvent (s : State) : AnswerGoes s (execBeatEvent s) := .stay (.ite (steady_beatStep (.refl s)) (.refl s))

theorem answerGoes_beatTaken (s : State) : AnswerGoes s (execBeatTaken s) := by
  unfold execBeatTaken
  split
  · exact .idle s
  · split
    · exact .stay (steady_popQueue (.refl s))
    · exact .stay (steady_restartCycle (steady_setLights (steady_withdrawFrame (steady_popQueue (.refl s)))))

theorem answerGoes_lampShort (l : Lamp) (current : Nat) (s : State) : AnswerGoes s (execLampShort l current s) := by
  unfold execLampShort
  exact .ite (.stay_done (steady_withdrawLamp (.refl s))) (.idle s)

end Sys2Proof.NodeControl
end

section
/-! SUPPORT. The configuration image: whatever its bytes, its fields in force lie in their ranges and meet the relations of
R36, and the clamped-field count is 0 exactly when they are as stored. -/

namespace Sys2Proof.NodeControl

open Sys2Proof Sys2Proof.Machine Sys2Proof.Safety

/-! ## The ranges in the units of Table 11-13 -/

theorem axleCount_clamped (v : Nat) : clampNat 2 3 v = 2 ∨ clampNat 2 3 v = 3 := by
  have := clampNat_range 2 3 v (by decide)
  omega

theorem winchPosition_clamped (n : Nat) : (if n = 0 ∨ n = 7 ∨ n = 8 then n else 7) = 0 ∨
    (if n = 0 ∨ n = 7 ∨ n = 8 then n else 7) = 7 ∨ (if n = 0 ∨ n = 7 ∨ n = 8 then n else 7) = 8 := by
  split
  · assumption
  · exact .inr (.inl rfl)

/-- A value stored in coarser units lies in its range. -/
theorem mul_clampNat_range (unit lo hi v : Nat) (h : lo ≤ hi) :
    unit * lo ≤ unit * clampNat lo hi v ∧ unit * clampNat lo hi v ≤ unit * hi :=
  ⟨Nat.mul_le_mul_left unit (clampNat_range lo hi v h).1, Nat.mul_le_mul_left unit (clampNat_range lo hi v h).2⟩

/-- A threshold code of at most 200 stands for 2500 to 4500 mV. -/
theorem thresholdMv_range {code : Nat} (h : code ≤ 200) : 2500 ≤ thresholdMv code ∧ thresholdMv code ≤ 4500 := by
  unfold thresholdMv
  omega

theorem thresholdMv_mono {a b : Nat} (h : a ≤ b) : thresholdMv a ≤ thresholdMv b := by
  unfold thresholdMv
  omega

/-! ## The fields in force -/

theorem powerRanges_settled (i : Image) : PowerRanges (workingImage (settleFields i)) where
  expectedNodes := clampNat_range 1 8 _ (by decide)
  axleCount := axleCount_clamped _
  cellCount := clampNat_range 2 4 _ (by decide)
  winchPosition := winchPosition_clamped _
  packMonitorPosition := (clampNat_range 0 8 _ (by decide)).2
  packLimit := clampNat_range 50 1000 _ (by decide)
  reserve := (clampNat_range 0 100 _ (by decide)).2
  nodeCap := clampNat_range 20 500 _ (by decide)
  floor := (min_le_left _ _).trans (clampNat_range 0 50 _ (by decide)).2
  rInt := clampNat_range 1 200 _ (by decide)
  thresholds v hv := by
    have derate := (clampNat_range 0 200 i.power.derate (by decide)).2
    have limp : min (clampNat 0 200 i.power.limp) (clampNat 0 200 i.power.derate) ≤ 200 := (min_le_right _ _).trans derate
    have cutoff := (min_le_right (clampNat 0 200 i.power.cutoff) _).trans limp
    have hardMin := (min_le_right (clampNat 0 200 i.power.hardMin) _).trans cutoff
    simp only [List.mem_cons, List.not_mem_nil, or_false] at hv
    rcases hv with rfl | rfl | rfl | rfl
    · exact thresholdMv_range derate
    · exact thresholdMv_range limp
    · exact thresholdMv_range cutoff
    · exact thresholdMv_range hardMin
  hysteresis := mul_clampNat_range 10 1 30 _ (by decide)
  imbalanceLimit := mul_clampNat_range 10 5 50 _ (by decide)

theorem motionRanges_settled (i : Image) : MotionRanges (workingImage (settleFields i)) where
  offsets x hx := by
    simp only [List.mem_cons, List.not_mem_nil, or_false] at hx
    rcases hx with rfl | rfl | rfl <;> exact clampInt_range _ _ _ (by decide)
  halfTrack := clampNat_range 40 400 _ (by decide)
  limits v hv := by
    simp only [List.mem_cons, List.not_mem_nil, or_false] at hv
    rcases hv with rfl | rfl | rfl <;> exact (mul_clampNat_range 5 0 90 _ (by decide)).2
  steerSlew := clampNat_range 1 50 _ (by decide)
  steerStop := mul_clampNat_range 5 20 100 _ (by decide)
  kpS := clampNat_range 1 255 _ (by decide)
  steerDeadband := clampNat_range 1 30 _ (by decide)
  wheelDiameter := clampNat_range 40 250 _ (by decide)
  countsPerRev := clampNat_range 12 4096 _ (by decide)
  vMax := clampNat_range 100 5000 _ (by decide)
  gains v hv := by
    simp only [List.mem_cons, List.not_mem_nil, or_false] at hv
    rcases hv with rfl | rfl | rfl <;> exact (clampNat_range 0 255 _ (by decide)).2
  throttleRamp := clampNat_range 1 200 _ (by decide)
  throttleDeadband := clampNat_range 10 200 _ (by decide)
  dragBrake := (clampNat_range 0 100 _ (by decide)).2
  deadTime := mul_clampNat_range 100 2 16 _ (by decide)
  failsafeTimeout := mul_clampNat_range 10 10 100 _ (by decide)
  markerLevel := (clampNat_range 0 255 _ (by decide)).2
  maxLine := mul_clampNat_range 10 100 3000 _ (by decide)
  stall := clampNat_range 10 255 _ (by decide)
  speedMax := clampNat_range 50 1000 _ (by decide)
  lineMmPer100 := clampNat_range 1 255 _ (by decide)
  assistRatio := clampNat_range 50 150 _ (by decide)
  assistSlack := (clampNat_range 0 255 _ (by decide)).2

theorem imageRelations_settled (i : Image) : ImageRelations (workingImage (settleFields i)) where
  limp := thresholdMv_mono (min_le_right _ _)
  cutoff := thresholdMv_mono (min_le_right _ _)
  hardMin := thresholdMv_mono (min_le_right _ _)
  floor := min_le_right _ _

theorem inRanges_imageFields (bytes : List Byte) : InRanges (imageFields bytes) :=
  ⟨powerRanges_settled _, motionRanges_settled _, imageRelations_settled _⟩

theorem imageFields_default : imageFields (defaultBytes ++ [crc8 defaultBytes]) = defaultFields := by decide +kernel

theorem inRanges_defaultFields : InRanges defaultFields := imageFields_default ▸ inRanges_imageFields _

theorem inRanges_receivedImage (bytes : List Byte) : InRanges (receivedImage bytes).fields := inRanges_imageFields bytes

theorem inRanges_defaultImage : InRanges defaultImage.fields := inRanges_defaultFields

/-- The default image has version 1, and byte 63 is checked against its first 62 bytes. -/
theorem imageAccepted_of_crc {c : Byte} (crc : crc8 defaultBytes = c) : imageAccepted (defaultBytes ++ [c]) = true := by
  have version : imageVersion (defaultBytes ++ [c]) = 1 := by simp [imageVersion, imageByte, defaultBytes, hiNibble]
  have first : (defaultBytes ++ [c]).take 62 = defaultBytes := rfl
  have last : imageByte (defaultBytes ++ [c]) 63 = c := rfl
  rw [imageAccepted, first, last, version, crc]
  simp

theorem imageAccepted_default : imageAccepted (defaultBytes ++ [crc8 defaultBytes]) = true := imageAccepted_of_crc rfl

theorem clampedCount_default : clampedCount (defaultBytes ++ [crc8 defaultBytes]) = 0 := by decide +kernel

/-! ## The clamped-field count -/

theorem mem_changes_iff {α : Type} [DecidableEq α] {x y : α} {l : List Bool} :
    true ∉ (x != y) :: l ↔ y = x ∧ true ∉ l := by
  rw [List.mem_cons, not_or, eq_comm (a := y)]
  exact and_congr_left' (by simp)

/-- Two images that share their lamp maps and the report mask differ in no counted field exactly when they are equal. -/
theorem fieldChanges_eq_false_iff {a b : Image} (maps : b.lights = { a.lights with markerLevel := b.lights.markerLevel })
    (mask : b.reportMask = a.reportMask) : true ∉ fieldChanges a b ↔ b = a := by
  obtain ⟨⟨⟩, ⟨⟩, ⟨⟩, ⟨⟩, ⟨⟩, ⟨⟩, am⟩ := a
  obtain ⟨⟨⟩, ⟨⟩, ⟨⟩, ⟨⟩, ⟨⟩, ⟨⟩, bm⟩ := b
  simp only [ImageLights.mk.injEq] at maps mask
  obtain ⟨rfl, rfl, rfl, rfl, -⟩ := maps
  subst mask
  simp only [fieldChanges, List.cons_append, List.nil_append, mem_changes_iff, List.not_mem_nil, not_false_eq_true, and_true,
    true_and, and_assoc, Image.mk.injEq, ImageVehicle.mk.injEq, ImagePower.mk.injEq, ImageSteer.mk.injEq,
    ImageDrive.mk.injEq, ImageLights.mk.injEq, ImageWinch.mk.injEq]

/-- Clamping and the relations leave the lamp maps and the report mask as stored. -/
theorem settleFields_unchanged_iff (i : Image) : true ∉ fieldChanges i (settleFields i) ↔ settleFields i = i :=
  fieldChanges_eq_false_iff rfl rfl

theorem clampedCount_eq_zero_iff (bytes : List Byte) : clampedCount bytes = 0 ↔
    lampMapChanged bytes = false ∧ settleFields (storedImage bytes) = storedImage bytes := by
  rw [clampedCount, List.count_eq_zero, List.mem_cons, not_or, settleFields_unchanged_iff]
  cases lampMapChanged bytes <;> simp

end Sys2Proof.NodeControl
end

section
/-! SUPPORT. The meaning of every command in the relations of this part: the node controller, the peer monitor, the queries,
the command intake and the supervisor. -/

namespace Sys2Proof.NodeControl

open Sys2Proof Sys2Proof.Machine Sys2Proof.Safety

variable {s t u : State}

/-- Outside CHECK no step is under way. -/
theorem idle_of_ne_check (state : s.node.state ≠ .check) (inv : OutputsInv s) : s.monitor.position = none :=
  Option.not_isSome_iff_eq_none.1 fun step => state (inv.stepInCheck step)

/-! ## The node controller (spec 02, 03) -/

theorem answerGoes_strapReadSuccess (p : Position) (s : State) : AnswerGoes s (execStrapReadSuccess p s) := by
  unfold execStrapReadSuccess
  split
  next strap => exact .next (goes_enterListen (steady_setNode (.refl s)).goes (by simp [strap]) (by simp [strap]))
  next => exact .idle s

theorem answerGoes_strapReadFail (last : Option Position) (s : State) : AnswerGoes s (execStrapReadFail last s) := by
  unfold execStrapReadFail
  split
  next strap => exact .next (goes_enterConflict (steady_setNode (.refl s)).goes (by simp [strap]))
  next => exact .idle s

theorem answerGoes_silenceTimerExpiry (s : State) : AnswerGoes s (execSilenceTimerExpiry s) := by
  have reported : Goes s (placeReport (s.setNode { s.node with silenceTimer := none })) :=
    (steady_placeReport (steady_setNode (.refl s))).goes
  unfold execSilenceTimerExpiry
  split
  next due => exact .done (.ite (goes_enterCheck reported (by simp [due]) (by simp [due])) reported)
  next => exact .idle s

theorem answerGoes_defaultTimerExpiry (s : State) : AnswerGoes s (execDefaultTimerExpiry s) := by
  unfold execDefaultTimerExpiry
  split
  next due =>
    have applied : Goes s (applyImage defaultImage s) := 
      goes_applyImage (.refl s) inRanges_defaultImage (by simp [due])
    exact .ite (.stay (steady_setNode (.refl s)))
      (.done (goes_enterCheck (applied.steady (steady_setNode (.refl _))) (by simp [due]) (by simp [due])))
  next => exact .idle s

theorem goes_completeImage (h : Goes s t) (listen : s.node.state = .listen) (stays : t.node.state = .listen) :
    Goes s (completeImage t) := by
  have applied : Goes s (applyImage (receivedImage (stagedBytes t.node.staging)) t) :=
    goes_applyImage h (inRanges_receivedImage _) (by simp [stays])
  unfold completeImage
  exact .ite (.ite (goes_enterCheck applied (by simp [listen]) (by simp [listen])) applied)
    (h.steady (steady_countBus (steady_setNode (.refl _))))

theorem goes_stageSegment {index : Nat} {bytes : List Byte} (h : Goes s t) (listen : s.node.state = .listen)
    (stays : t.node.state = .listen) : Goes s (stageSegment index bytes t) := by
  unfold stageSegment
  exact .ite (goes_completeImage (h.steady (steady_setNode (.refl _))) listen stays) (h.steady (steady_setNode (.refl _)))

theorem goes_takeConfig {payload : List Byte} (h : Steady s t) : Goes s (takeConfig payload t) := by
  have ignored : Goes s (countCfgIgnored t) := (steady_countBus h).goes
  unfold takeConfig
  split
  next open_ =>
    cases payload with
    | nil => exact ignored
    | cons i bytes => exact .ite (goes_stageSegment h.goes (h.state ▸ open_.1) open_.1) ignored
  next => exact ignored

theorem answerGoes_config (s : State) : AnswerGoes s (execConfig s) := by
  unfold execConfig
  split
  · exact .idle s
  · exact .done (goes_takeConfig (steady_popQueue (.refl s)))

theorem judgesOwn_iff (st : NodeState) : judgesOwn st = true ↔ st ≠ .strap ∧ st ≠ .cutoff ∧ st ≠ .conflict := by
  cases st <;> decide

theorem answerGoes_ownStationFrame (s : State) : AnswerGoes s (execOwnStationFrame s) := by
  have popped : Goes s (popQueue s) := (steady_popQueue (.refl s)).goes
  unfold execOwnStationFrame
  split
  · exact .idle s
  · refine .next ?_
    split
    next judged =>
      obtain ⟨_, cutoff, _⟩ := (judgesOwn_iff _).1 (Bool.and_eq_true_iff.1 judged).1
      exact goes_enterConflict popped cutoff
    next => exact popped

theorem answerGoes_conflictNoticeTimer (s : State) : AnswerGoes s (execConflictNoticeTimer s) :=
  .stay (.ite (steady_placeNotice (.refl s)) (.refl s))

theorem answerGoes_reportTimerExpiry (s : State) : AnswerGoes s (execReportTimerExpiry s) :=
  .stay (.ite (steady_placeReport (.refl s)) (.refl s))

theorem answerGoes_heldEventSpacingExpiry (s : State) : AnswerGoes s (execHeldEventSpacingExpiry s) :=
  .stay (.ite (steady_placeReport (.refl s)) (.refl s))

/-! ## The peer monitor (spec 03) -/

theorem steady_takeReport {f : RxFrame} (h : Steady s t) : Steady s (takeReport f t) := by
  unfold takeReport
  split
  · exact steady_setPeers h
  · exact h

theorem answerGoes_report (s : State) : AnswerGoes s (execReport s) := by
  unfold execReport
  split
  · exact .idle s
  · exact .stay (steady_takeReport (steady_popQueue (.refl s)))

theorem answerGoes_peerLost (station : Nat) (s : State) : AnswerGoes s (execPeerLost station s) := by
  unfold execPeerLost
  split
  · exact .idle s
  · exact .stay (steady_setPeers (.refl s))

theorem steady_takeWinch {f : RxFrame} (h : Steady s t) : Steady s (takeWinch f t) := by
  unfold takeWinch
  refine .ite h ?_
  split
  · exact h
  · exact steady_setPeers h

theorem answerGoes_winch (s : State) : AnswerGoes s (execWinch s) := by
  unfold execWinch
  split
  · exact .idle s
  · exact .stay (steady_takeWinch (steady_popQueue (.refl s)))

theorem answerGoes_winchLinkExpiry (s : State) : AnswerGoes s (execWinchLinkExpiry s) := .stay (steady_setPeers (.refl s))

/-! ## The queries (spec 03) -/

/-- A QUERY is for this node outside CONFLICT and STRAP alone (R55). -/
theorem headQuery_mine {q : QueryRead} (h : headQuery s = some (q, true)) :
    s.node.state ≠ .conflict ∧ s.node.state ≠ .strap := by
  unfold headQuery at h
  split at h
  · cases h
  · split at h
    · cases h
    · have mine := congrArg Prod.snd (Option.some.inj h)
      simp only [Bool.and_eq_true, decide_eq_true_eq] at mine
      exact ⟨mine.1.2, mine.2⟩

theorem answerGoes_onQuery {code : QueryCode} {act : QueryRead → State → State}
    (hact : ∀ q, s.node.state ≠ .conflict → Goes s (act q (popQueue s))) : AnswerGoes s (onQuery code act s) := by
  have popped : Goes s (popQueue s) := (steady_popQueue (.refl s)).goes
  unfold onQuery
  split
  · exact .idle s
  next q mine head =>
    refine .ite (.done ?_) (.idle s)
    cases mine with
    | false => exact popped
    | true => exact hact q (headQuery_mine head).1

theorem steady_answerIndexed {α : Type} {top : Nat} {l : List α} {data : α → List Byte} {q : QueryRead} (h : Steady s t) :
    Steady s (answerIndexed top l data q t) := by
  unfold answerIndexed
  refine .ite (steady_placeAnswer h) ?_
  split <;> exact steady_placeAnswer h

theorem answerGoes_answerOk {code : QueryCode} {data : State → List Byte} (s : State) :
    AnswerGoes s (onQuery code (answerOk data) s) :=
  answerGoes_onQuery fun _ _ => (steady_placeAnswer (steady_popQueue (.refl s))).goes

theorem answerGoes_fault (s : State) : AnswerGoes s (execFault s) :=
  answerGoes_onQuery fun _ _ => (steady_answerIndexed (steady_popQueue (.refl s))).goes

theorem answerGoes_winchLog (s : State) : AnswerGoes s (execWinchLog s) :=
  answerGoes_onQuery fun _ _ =>
    .ite (steady_answerIndexed (steady_popQueue (.refl s))).goes (steady_placeAnswer (steady_popQueue (.refl s))).goes

theorem answerGoes_restart (s : State) : AnswerGoes s (execRestart s) := by
  refine answerGoes_onQuery fun q conflict => ?_
  split
  next => exact (steady_placeAnswer (steady_popQueue (.refl s))).goes
  next cutoff =>
    have left : Enters s.node.state s (abandonCheck (popQueue s)) := ⟨rfl, rfl, rfl, rfl, rfl, rfl, fun _ => rfl, id⟩
    have safe : Lasting s (goSafe .fault (abandonCheck (popQueue s))) := lasting_goSafe left cutoff
    exact (lasting_enterListen ((lasting_restartBlocks safe).steady (steady_placeAnswer (.refl _)))).goes_of_entry
      (by rw [enterListen_state]; nofun) fun _ => ⟨cutoff, conflict⟩

theorem answerGoes_recheck (s : State) : AnswerGoes s (execRecheck s) := by
  have answered {q : QueryRead} {r : AnswerResult} : Goes s (placeAnswer q.asker q.code r [] (popQueue s)) :=
    (steady_placeAnswer (steady_popQueue (.refl s))).goes
  refine answerGoes_onQuery fun q _ => ?_
  split
  next safe =>
    have left : s.node.state = .safe := safe
    exact goes_enterCheck answered (by simp [left]) (by simp [left])
  next => exact answered

theorem answerGoes_queryUnknownCode (s : State) : AnswerGoes s (execQueryUnknownCode s) := by
  have popped : Steady s (popQueue s) := steady_popQueue (.refl s)
  unfold execQueryUnknownCode
  split
  · exact .idle s
  · split
    · exact .stay popped
    · exact .ite (.idle s) (.stay (.ite (steady_placeAnswer popped) popped))

/-! ## The end of a link (spec 04) -/

theorem answerGoes_linkExpiry (s : State) : AnswerGoes s (execLinkExpiry s) := by
  unfold execLinkExpiry
  refine .ite ?_ (.idle s)
  split
  next => exact .stay (steady_setIntake (.refl s))
  next run =>
    have unbound : Lasting s (s.setIntake { s.intake with bound := none }) := (steady_setIntake (.refl s)).lasting
    have idle := idle_of_ne_check (s := s.setIntake { s.intake with bound := none }) (by rw [State.setIntake_node, run]; nofun)
    exact .done ((lasting_enterFailsafe unbound idle).goes_of_entry (by rw [enterFailsafe_state]; nofun)
      fun _ => by simp [run])
  next => exact .stay (steady_setIntake (.refl s))
  all_goals exact .idle s

theorem answerGoes_failsafeStage2 (s : State) : AnswerGoes s (execFailsafeStage2 s) := by
  unfold execFailsafeStage2
  exact .ite (.stay (steady_offBridgeB (steady_setIntake (.refl s)))) (.idle s)

/-! ## The power supervisor (spec 05) -/

theorem goes_cutoffOn {cause : Option CutoffCause} (h : Goes s t) : Goes s (cutoffOn cause t) := by
  unfold cutoffOn
  split
  · exact h
  · exact goes_enterCutoff h

theorem goes_stageJudge (h : Goes s t) : Goes s (stageJudge t) := by
  have levelled : Steady t (t.setPower (stageLevel4 (fieldsOf t) t.power)) := steady_setPower (.refl t)
  exact goes_cutoffOn (goes_cutoffOn (h.steady (.ite levelled (steady_raiseEvent levelled))))

theorem goes_budgetTick {r : BudgetReadings} (h : Goes s t) : Goes s (budgetTick r t) := by
  have read : Steady t (stagePack (stageReadings r t)) := steady_setPower (steady_setPower (steady_setPeers (.refl t)))
  exact (goes_stageJudge (h.steady read)).steady (steady_clearMarks (steady_setPower (.refl _)))

theorem answerGoes_budgetTick (r : BudgetReadings) (s : State) : AnswerGoes s (execBudgetTick r s) := by
  have presented : Steady s (presentReadings r s) := steady_setPins (.refl s)
  unfold execBudgetTick
  exact .ite (.done (goes_budgetTick presented.goes)) (.stay presented)

theorem answerGoes_peerCutoffTest (s : State) : AnswerGoes s (execPeerCutoffTest s) := by
  have restarted : Goes s (s.setPower { s.power with timer := 0 }) := (steady_setPower (.refl s)).goes
  unfold execPeerCutoffTest
  exact .ite (.idle s) (.done (.ite (goes_enterCutoff restarted) restarted))

end Sys2Proof.NodeControl
end

section
/-! SUPPORT. The meaning of every command in the relations of this part: the steering unit, the drive unit and the winch unit.
They write to a bridge only in RUN and FAILSAFE, or a setting that drives nothing. -/

namespace Sys2Proof.NodeControl

open Sys2Proof Sys2Proof.Machine Sys2Proof.Safety

variable {s t u : State}

theorem Steady.mayDrive (h : Steady s t) (may : mayDrive s) : mayDrive t := by
  simpa only [Safety.mayDrive, h.state] using may

/-- In RUN and FAILSAFE every setting of bridge A may be written. -/
theorem steady_writeBridgeA_of_mayDrive {m : BridgeMode} {d : Nat} (h : Steady s t) (may : mayDrive s) :
    Steady s (writeBridgeA m d t) := steady_writeBridgeA h fun _ _ => .inl (h.mayDrive may)

theorem steady_writeBridgeB_of_mayDrive {m : BridgeMode} {d : Nat} (h : Steady s t) (may : mayDrive s) :
    Steady s (writeBridgeB m d t) := steady_writeBridgeB h fun _ _ => .inl (h.mayDrive may)

/-! ## The steering unit (spec 06) -/

theorem steady_readActuator {pot isb : Nat} (h : Steady s t) : Steady s (readActuator pot isb t) :=
  steady_setSteer (steady_setSteer (steady_setPins h))

theorem steady_startLoop (h : Steady s t) : Steady s (startLoop t) := by
  unfold startLoop
  exact .ite h (steady_setSteer h)

theorem steady_declareStall {err : Int} (h : Steady s t) : Steady s (declareStall err t) := by
  unfold declareStall
  exact .ite (steady_addFault (steady_setSteer h)) (steady_setSteer h)

/-- The loop runs in RUN and FAILSAFE alone (R120). -/
theorem mayDrive_of_loopAllowed (h : loopAllowed s = true) : mayDrive s := by
  simp only [loopAllowed, Bool.and_eq_true, Bool.or_eq_true, decide_eq_true_eq] at h
  obtain ⟨⟨⟨⟨⟨⟨_, state⟩, _⟩, _⟩, _⟩, _⟩, _⟩ := h
  exact state.imp_right And.left

theorem steady_loopTick {isb : Nat} (h : Steady s t) (may : mayDrive s) : Steady s (loopTick isb t) :=
  steady_writeBridgeB_of_mayDrive (.ite (steady_declareStall (steady_setSteer h)) (steady_setSteer h)) may

theorem answerGoes_actuatorTick (pot isb : Nat) (s : State) : AnswerGoes s (execActuatorTick pot isb s) := by
  have read : Steady s (readActuator pot isb s) := steady_readActuator (.refl s)
  unfold execActuatorTick
  refine .ite ?_ (.stay (steady_setPins (.refl s)))
  dsimp only
  split
  next allowed =>
    have looped := steady_loopTick (isb := isb) (steady_startLoop (.refl (readActuator pot isb s)))
      (mayDrive_of_loopAllowed allowed)
    exact .stay_done (read.trans looped)
  next => exact .stay (.ite (steady_offBridgeB read) read)

/-- The duty already written is held to ±300 in its own mode (R125). -/
theorem answerGoes_steerStall (s : State) : AnswerGoes s (execSteerStall s) := by
  unfold execSteerStall
  exact .ite (.stay_done (steady_writeBridgeB (steady_declareStall (.refl s)) fun held => held.1)) (.idle s)

theorem answerGoes_stallLimitEnd (s : State) : AnswerGoes s (execStallLimitEnd s) := .stay (steady_setSteer (.refl s))

theorem answerGoes_steerSensorLost (pot : Nat) (s : State) : AnswerGoes s (execSteerSensorLost pot s) := by
  unfold execSteerSensorLost
  exact .ite (.stay_done (steady_addFault (steady_offBridgeB (steady_raiseEvent (steady_setSteer (steady_setPins (.refl s)))))))
    (.idle s)

/-! ## The drive unit (spec 07) -/

theorem steady_loseEncoder (h : Steady s t) : Steady s (loseEncoder t) := steady_addFault (steady_setDrive h)

theorem steady_recoverEncoder (h : Steady s t) : Steady s (recoverEncoder t) := steady_setDrive h

theorem steady_watchLoss (h : Steady s t) : Steady s (watchLoss t) := by
  unfold watchLoss
  exact .ite h (.ite (.ite (steady_loseEncoder h) (steady_setDrive h)) (steady_setDrive h))

/-- A setting that a row of Table 7-2 may write: in RUN any, elsewhere none that drives. -/
def RowMay (s : State) (set : Option Setting) : Prop :=
  ∀ x, set = some x → HoldIsSafe s → drivesMode x.mode = true → s.node.state = .run

theorem rowMay_of_quiet {x : Setting} (quiet : HoldIsSafe s → drivesMode x.mode = false) : RowMay s (some x) := by
  rintro _ ⟨⟩ hold drives
  cases (quiet hold).symm.trans drives

/-- The hold of a withdrawn bridge A drives nothing (R145, R193). -/
theorem drivesMode_holdA (hold : HoldIsSafe s) : drivesMode (s.monitor.holdA.getD .off) = false := by
  cases fixed : s.monitor.holdA with
  | none => rfl
  | some m => rcases hold m fixed with rfl | rfl <;> rfl

/-- Rows 1 to 3 of Table 7-2 drive nothing; the later rows are for RUN (R135). -/
theorem rowMay_takeRow (isa : Nat) (s : State) : RowMay s (takeRow isa s).1.set := by
  by_cases run : s.node.state = .run
  · exact fun _ _ _ _ => run
  · have early : ∃ r, earlyRow s = some r ∧ RowMay s r.set := by
      unfold earlyRow
      split
      · exact ⟨_, rfl, rowMay_of_quiet drivesMode_holdA⟩
      · split
        · exact ⟨_, rfl, nofun⟩
        · split
          · exact ⟨_, rfl, nofun⟩
          · exact ⟨_, rfl, rowMay_of_quiet fun _ => rfl⟩
    obtain ⟨r, row, may⟩ := early
    simpa only [takeRow, row] using may

theorem steady_writeIf {set : Option Setting} (h : Steady s t) (may : RowMay t set) : Steady s (writeIf set t) := by
  unfold writeIf
  split
  · exact h
  next x => exact steady_writeBridgeA h fun hold drives => .inl (.inl (may x rfl hold drives))

theorem steady_setDriveFlags (h : Steady s t) : Steady s (setDriveFlags t) := by
  unfold setDriveFlags
  exact .ite (steady_setDrive h) (steady_raiseEvent (steady_setDrive h))

theorem steady_cornerTick {isa : Nat} (h : Steady s t) : Steady s (cornerTick isa t) :=
  steady_setDriveFlags (steady_writeIf (steady_setDrive (steady_setDrive (steady_watchLoss (steady_setDrive h))))
    (rowMay_takeRow isa _))

theorem answerGoes_driveTick (isa : Nat) (s : State) : AnswerGoes s (execDriveTick isa s) := by
  have timed {p : Pins} {d : Drive} : Steady s ((s.setPins p).setDrive d) := steady_setDrive (steady_setPins (.refl s))
  unfold execDriveTick
  dsimp only
  split
  · exact .stay_done (steady_cornerTick timed)
  · exact .stay (steady_setDrive timed)
  · exact .stay timed
  · exact .stay timed

theorem steady_countRecovery {dir : Direction} (h : Steady s t) : Steady s (countRecovery dir t) := by
  unfold countRecovery
  exact .ite (.ite (.ite (steady_recoverEncoder h) (steady_setDrive h)) (steady_setDrive h)) h

theorem steady_drumEdge {dir : Direction} (h : Steady s t) : Steady s (drumEdge dir t) := by
  unfold drumEdge
  exact .ite (steady_endOperation (steady_setWinch h)) (steady_setWinch h)

theorem answerGoes_encoderEdge (dir : Direction) (interval : Nat) (s : State) :
    AnswerGoes s (execEncoderEdge dir interval s) := by
  unfold execEncoderEdge
  dsimp only
  split
  · exact .stay (steady_countRecovery (steady_setDrive (.refl s)))
  · exact .stay_done (steady_drumEdge (steady_setDrive (.refl s)))
  · exact .idle s
  · exact .idle s

theorem answerGoes_encoderEdgeTimeout (s : State) : AnswerGoes s (execEncoderEdgeTimeout s) :=
  .stay (.ite (steady_setDrive (.refl s)) (.refl s))

theorem answerGoes_encoderLost (s : State) : AnswerGoes s (execEncoderLost s) := by
  unfold execEncoderLost
  exact .ite (.stay_done (steady_loseEncoder (.refl s))) (.idle s)

theorem answerGoes_encoderRecovered (s : State) : AnswerGoes s (execEncoderRecovered s) :=
  .stay (.ite (steady_recoverEncoder (.refl s)) (.refl s))

theorem steady_tripA (h : Steady s t) : Steady s (tripA t) := by
  unfold tripA
  exact .ite (steady_addFault (steady_withdrawA (steady_setDrive h)))
    (steady_addFault (steady_setWinch (steady_setDrive (steady_forceBridgeA (steady_zeroDrive h) fun _ => nofun))))

theorem answerGoes_overcurrentTrip (current : Nat) (s : State) : AnswerGoes s (execOvercurrentTrip current s) := by
  unfold execOvercurrentTrip
  exact .ite (.stay_done (steady_tripA (.refl s))) (.idle s)

theorem answerGoes_tripWaitEnd (s : State) : AnswerGoes s (execTripWaitEnd s) := .stay (steady_setDrive (.refl s))

/-- A boundary applies what is written already (R141). -/
theorem answerGoes_pwmPeriodBoundary (s : State) : AnswerGoes s (execPwmPeriodBoundary s) :=
  .stay (steady_setBridgeB (steady_setBridgeA (.refl s) (fun _ held => held.1) fun _ held => held.1)
    (fun held => held.1) fun held => held.1)

/-! ## The winch unit (spec 08) -/

theorem steady_driveSolenoid {isb : Nat} (h : Steady s t) (may : mayDrive s) : Steady s (driveSolenoid isb t) :=
  steady_writeBridgeB_of_mayDrive (steady_setWinch h) may

theorem steady_fromBraked {isb : Nat} (h : Steady s t) (may : mayDrive s) : Steady s (fromBraked isb t) := by
  unfold fromBraked
  dsimp only
  split
  · exact .ite (steady_driveSolenoid (steady_setDrum h) may) h
  · exact .ite h (steady_setWinch (steady_setDrum h))

theorem steady_drumLoop {dir : WinchDir} {isa : Nat} (h : Steady s t) (may : mayDrive s) : Steady s (drumLoop dir isa t) := by
  unfold drumLoop
  exact .ite (steady_setWinch h) (steady_writeBridgeA_of_mayDrive (steady_setWinch h) may)

theorem steady_watchDrum {isa : Nat} (h : Steady s t) : Steady s (watchDrum isa t) := by
  unfold watchDrum
  refine .ite ?_ (steady_setWinch h)
  split
  · exact steady_setWinch h
  · exact .ite (steady_endOperation h) h

theorem steady_fromRunning {dir : WinchDir} {isa : Nat} (h : Steady s t) (may : mayDrive s) :
    Steady s (fromRunning dir isa t) := by
  have looped : Steady s (drumLoop dir isa (setDrumTarget dir t)) := steady_drumLoop (steady_setWinch h) may
  unfold fromRunning
  exact .ite (.ite (steady_watchDrum looped) looped) (steady_endOperation h)

theorem steady_engageEnd (h : Steady s t) : Steady s (engageEnd t) := by
  unfold engageEnd
  split
  · exact steady_setDrum (steady_closeOperation h)
  · exact .ite (steady_setWinch (steady_setDrum (steady_setWinch h))) (steady_setDrum (steady_closeOperation h))

theorem steady_runEntered {isa : Nat} (h : Steady s t) (may : mayDrive s) : Steady s (runEntered isa t) := by
  unfold runEntered
  exact .ite (steady_watchDrum (steady_drumLoop h may)) (.ite (steady_drumLoop h may) h)

theorem steady_fromEngaging {isa : Nat} (h : Steady s t) (may : mayDrive s) : Steady s (fromEngaging isa t) := by
  unfold fromEngaging
  refine .ite (steady_setDrum (steady_closeOperation h)) ?_
  split
  · exact h
  · exact .ite (steady_runEntered (steady_engageEnd h) may) h

theorem steady_fromFreespool {isb : Nat} (h : Steady s t) (may : mayDrive s) : Steady s (fromFreespool isb t) := by
  unfold fromFreespool
  exact .ite (steady_driveSolenoid h may) (steady_setDrum (steady_offBridgeB h))

theorem steady_fromBlocked {dir : WinchDir} (h : Steady s t) : Steady s (fromBlocked dir t) := by
  unfold fromBlocked
  exact .ite h (steady_setDrum h)

theorem steady_restDrum (h : Steady s t) : Steady s (restDrum t) := by
  unfold restDrum
  exact .ite h (steady_writeBridgeA h fun hold => allowsA_of_quiet (drivesMode_safeModeA hold))

theorem steady_drumTick {isa isb : Nat} (h : Steady s t) (may : mayDrive s) : Steady s (drumTick isa isb t) := by
  unfold drumTick
  split
  · exact steady_fromBraked (steady_restDrum h) may
  · exact steady_fromEngaging (steady_restDrum h) may
  · exact steady_fromRunning h may
  · exact steady_fromRunning h may
  · exact steady_fromBlocked (steady_restDrum h)
  · exact steady_fromBlocked (steady_restDrum h)
  · exact steady_fromBlocked (steady_restDrum h)
  · exact steady_fromFreespool (steady_restDrum h) may
  · exact steady_restDrum h

theorem answerGoes_controlTick (isa isb : Nat) (s : State) : AnswerGoes s (execControlTick isa isb s) := by
  have read : Steady s (readControl isa isb s) := steady_setWinch (steady_setPins (.refl s))
  unfold execControlTick
  refine .ite ?_ (.stay (steady_setPins (.refl s)))
  dsimp only
  split
  next run => exact .stay_done (steady_drumTick read (.inl run))
  next => exact .stay (steady_restDrum read)

theorem steady_acceptLimits {sw0 sw1 : Option SwitchLevel} (h : Steady s t) : Steady s (acceptLimits sw0 sw1 t) := by
  unfold acceptLimits
  exact .ite (steady_endOperation (steady_setWinch h)) (.ite (steady_endOperation (steady_setWinch h)) (steady_setWinch h))

theorem answerGoes_limitAcceptance (sw0 sw1 : Option SwitchLevel) (s : State) :
    AnswerGoes s (execLimitAcceptance sw0 sw1 s) := by
  unfold execLimitAcceptance
  exact .ite (.stay_done (steady_acceptLimits (steady_setPins (.refl s)))) (.stay (steady_setPins (.refl s)))

theorem answerGoes_engageDelayEnd (s : State) : AnswerGoes s (execEngageDelayEnd s) := by
  unfold execEngageDelayEnd
  exact .ite (.stay_done (steady_engageEnd (.refl s))) (.idle s)

theorem answerGoes_winchStall (s : State) : AnswerGoes s (execWinchStall s) := by
  unfold execWinchStall
  exact .ite (.stay_done (steady_endOperation (.refl s))) (.idle s)

theorem answerGoes_winchTimerExpiry (s : State) : AnswerGoes s (execWinchTimerExpiry s) :=
  .stay (.ite (steady_placeWinch (.refl s)) (.refl s))

end Sys2Proof.NodeControl
end

section
/-! SUPPORT. The meaning of every command in the relations of this part: the output monitor, the clock, and every command but
the four that do more. -/

namespace Sys2Proof.NodeControl

open Sys2Proof Sys2Proof.Machine Sys2Proof.Safety

variable {s t u : State} {st : CheckStep}

/-! ## From one CHECK step to another -/

/-- A step is under way in CHECK alone. -/
theorem check_of_position (position : s.monitor.position = some st) (inv : OutputsInv s) : s.node.state = .check :=
  inv.stepInCheck (by rw [position]; rfl)

/-- A step that drives bridge B may follow any that does not drive bridge A; the others only one that drives neither. -/
theorem readyFor_of_other {before : CheckStep} (inv : OutputsInv s) (position : s.monitor.position = some before)
    (quietA : before ≠ .loadA) (driveB : drivesBStep (some before) → drivesBStep (some st)) : ReadyFor st s := by
  have check := check_of_position position inv
  have stillA (may : allowsA s) : False := by
    rcases may with may | load
    · rcases may with run | failsafe
      · cases check.symm.trans run
      · cases check.symm.trans failsafe
    · exact quietA (Option.some.inj (position.symm.trans load))
  have onB (may : allowsB s) : drivesBStep (some st) := by
    rcases may with may | step
    · rcases may with run | failsafe
      · cases check.symm.trans run
      · cases check.symm.trans failsafe
    · rw [position] at step
      exact driveB step
  exact ⟨fun _ => check, inv.holdSafe, fun d => (stillA (inv.nextA d)).elim, fun d => (stillA (inv.activeA d)).elim,
    fun d => .inr (onB (inv.nextB d)), fun d => .inr (onB (inv.activeB d))⟩

/-- One step follows another without a rest between them. -/
theorem goes_nextStep {before : CheckStep} (h : Steady s t) (position : s.monitor.position = some before)
    (quietA : before ≠ .loadA) (driveB : drivesBStep (some before) → drivesBStep (some st)) : Goes s (beginStep st t) :=
  goes_beginStep h.goes fun inv => readyFor_of_other (h.outputs inv) (h.position.trans position) quietA driveB

/-- With the bridges at rest in CHECK the sequence may stand at any step. -/
theorem goes_standAt {x : Monitor} (h : Goes s t) (rest : OutputsInv s → AtRest t)
    (check : OutputsInv s → t.node.state = .check) (holdA : x.holdA = t.monitor.holdA := by rfl) : Goes s (t.setMonitor x) :=
  h.outputs_only fun inv => by
    have stands : AtRest (t.setMonitor x) := (rest inv).of_same
    exact outputsInv_iff.2 ⟨fun _ => check inv, fun m hm => (h.outputs inv).holdSafe m (holdA ▸ hm), stands.heldA, stands.heldB⟩

/-! ## The output monitor (spec 10) -/

theorem steady_setRecord {f : CheckRecord → CheckRecord} (h : Steady s t) : Steady s (setRecord f t) := steady_setMonitor h

theorem steady_restorePrior (h : Steady s t) : Steady s (restorePrior st t) := by
  unfold restorePrior
  exact .ite (.ite (steady_setSteer h) (steady_raiseEvent (steady_setSteer h))) h

section
variable (check : OutputsInv s → s.node.state = .check)
include check

theorem goes_endStep (h : Steady s t) : Goes s (completeStep st t) :=
  goes_completeStep h.goes fun inv => h.state.trans (check inv)

theorem goes_failA {result : CheckResult} (h : Steady s t) : Goes s (failA result st t) :=
  goes_endStep check (steady_withdrawA (steady_addFault (steady_setRecord h)))

theorem goes_failB {result : CheckResult} (h : Steady s t) : Goes s (failB result st t) :=
  goes_endStep check (steady_withdrawB (steady_addFault (steady_setRecord (steady_restorePrior h))))

theorem goes_passA (h : Steady s t) : Goes s (passA t) := goes_endStep check (steady_setRecord h)

theorem goes_passB (h : Steady s t) : Goes s (passB t) := goes_endStep check (steady_setRecord h)

end

theorem answerGoes_supplyTestRetry (vpack : Int) (s : State) : AnswerGoes s (execSupplyTestRetry vpack s) := by
  unfold execSupplyTestRetry
  split
  next supply =>
    exact .ite (.done (goes_endStep (check_of_position supply) (steady_setPins (.refl s))))
      (.stay (steady_setMonitor (steady_setPins (.refl s))))
  next => exact .idle s

theorem answerGoes_pullTestEnd (out vpack : Int) (s : State) : AnswerGoes s (execPullTestEnd out vpack s) := by
  have read {p : Pins} : Steady s (s.setPins p) := steady_setPins (.refl s)
  unfold execPullTestEnd
  split
  next position =>
    have check := check_of_position position
    exact .done (.ite (goes_failA check read) (goes_endStep check read))
  next position =>
    have check := check_of_position position
    exact .done (.ite (goes_failA check read) (goes_endStep check read))
  next position =>
    have check := check_of_position position
    exact .done (.ite (goes_failB check read) (goes_endStep check read))
  next position =>
    have check := check_of_position position
    exact .done (.ite (goes_failB check read) (goes_endStep check read))
  next => exact .idle s

theorem answerGoes_loadPulseEnd (current : Nat) (s : State) : AnswerGoes s (execLoadPulseEnd current s) := by
  unfold execLoadPulseEnd
  dsimp only
  split
  next position =>
    have check := check_of_position position
    exact .ite (.idle s) (.done (.ite (goes_passA check (.refl s)) (goes_failA check (.refl s))))
  next position =>
    have check := check_of_position position
    exact .ite (.idle s) (.done (.ite (goes_passB check (.refl s)) (goes_failB check (.refl s))))
  next => exact .idle s

theorem answerGoes_loadPulseTrip (current : Nat) (s : State) : AnswerGoes s (execLoadPulseTrip current s) := by
  unfold execLoadPulseTrip
  split
  next position => exact .ite (.done (goes_failA (check_of_position position) (.refl s))) (.idle s)
  next position => exact .ite (.done (goes_failB (check_of_position position) (.refl s))) (.idle s)
  next => exact .idle s

/-- A lamp found goes on from its presence test to its rating (R190). -/
theorem answerGoes_lampPresenceTestEnd (pin vpack : Int) (s : State) :
    AnswerGoes s (execLampPresenceTestEnd pin vpack s) := by
  unfold execLampPresenceTestEnd
  split
  next l position =>
    have read {p : Pins} : Steady s (s.setPins p) := steady_setPins (.refl s)
    have absent {p : Pins} : Goes s (lampAbsent l (s.setPins p)) :=
      goes_endStep (check_of_position position) (steady_setMonitor (steady_setRecord read))
    exact .ite (.next (goes_nextStep read position nofun nofun)) (.done absent)
  next => exact .idle s

theorem answerGoes_lampRatingEnd (mean : Nat) (s : State) : AnswerGoes s (execLampRatingEnd mean s) := by
  unfold execLampRatingEnd
  split
  next position =>
    exact .done (goes_endStep (check_of_position position) (steady_setMonitor (steady_setRecord (.refl s))))
  next => exact .idle s

theorem answerGoes_lampRatingShort (current : Nat) (s : State) : AnswerGoes s (execLampRatingShort current s) := by
  unfold execLampRatingShort
  split
  next position =>
    exact .ite (.done (goes_endStep (check_of_position position) (steady_withdrawLamp (steady_setRecord (.refl s))))) (.idle s)
  next => exact .idle s

theorem position_of_sweeping (h : sweeping s = some st) : s.monitor.position = some st := by
  unfold sweeping at h
  split at h
  · cases h
  · split at h <;> cases h <;> assumption

theorem goes_judgePair {left right : Nat} (h : Steady s t) (position : s.monitor.position = some .sweepRight) :
    Goes s (judgePair left right t) := by
  unfold judgePair
  exact .ite (goes_nextStep (steady_setRecord (steady_setSteer
    (.ite (steady_raiseEvent (steady_setMonitor h)) (steady_setMonitor h)))) position nofun id)
    (goes_failB (check_of_position position) h)

theorem answerGoes_sweepStopFound (pot : Nat) (s : State) : AnswerGoes s (execSweepStopFound pot s) := by
  have read {p : Pins} : Steady s (s.setPins p) := steady_setPins (.refl s)
  unfold execSweepStopFound
  dsimp only
  split
  next left =>
    exact .next (goes_nextStep (steady_setMonitor read) (position_of_sweeping left) nofun id)
  next right => exact .done (goes_judgePair read (position_of_sweeping right))
  next => exact .idle s

theorem answerGoes_sweepPhaseTimeout (s : State) : AnswerGoes s (execSweepPhaseTimeout s) := by
  unfold execSweepPhaseTimeout
  split
  next left => exact .done (goes_failB (check_of_position (position_of_sweeping left)) (.refl s))
  next right => exact .done (goes_failB (check_of_position (position_of_sweeping right)) (.refl s))
  next => exact .idle s

theorem answerGoes_sweepFault (s : State) : AnswerGoes s (execSweepFault s) := by
  unfold execSweepFault
  split
  next phase => exact .done (goes_failB (check_of_position (position_of_sweeping phase)) (.refl s))
  next => exact .idle s

/-- Bridge B brakes in the return phase, which drives it (R192). -/
theorem answerGoes_sweepReturnEnd (s : State) : AnswerGoes s (execSweepReturnEnd s) := by
  unfold execSweepReturnEnd
  split
  next phase =>
    have position := position_of_sweeping phase
    have brakes : allowsB s := .inr (by rw [position]; trivial)
    exact .done (goes_endStep (check_of_position position) (steady_forceBridgeB (.refl s) fun _ => brakes))
  next => exact .idle s

theorem answerGoes_supplyDip (vpack : Int) (s : State) : AnswerGoes s (execSupplyDip vpack s) := by
  unfold execSupplyDip
  split
  next dips =>
    have rested {p : Pins} : Steady s (restBridges (s.setPins p)) := steady_restBridges (steady_setPins (.refl s))
    exact .next (goes_standAt rested.goes (fun inv => atRest_restBridges inv.holdSafe) fun _ => rested.state.trans dips.1)
  next => exact .idle s

theorem goes_checkThermal {before : ThermalClass} (h : Steady s t) : Goes s (checkThermal before t) := by
  unfold checkThermal
  split
  next => exact h.goes
  next st position =>
    have check (inv : OutputsInv s) : s.node.state = .check := h.state ▸ check_of_position position (h.outputs inv)
    have rested : Steady s (setRecord (forgetResult st) (restBridges t)) := steady_setRecord (steady_restBridges h)
    refine .ite (goes_standAt rested.goes (fun inv => ?_) fun inv => rested.state.trans (check inv))
      (.ite (.ite (goes_endStep check h) (goes_beginStep h.goes fun inv => readyFor_self (h.outputs inv) position)) h.goes)
    exact (atRest_restBridges (h.outputs inv).holdSafe).of_same

theorem goes_thermalChange {before : ThermalClass} (h : Steady s t) : Goes s (thermalChange before t) :=
  goes_checkThermal (steady_thermalEffects h)

theorem steady_tripB (h : Steady s t) : Steady s (tripB t) := by
  have off {x : Monitor} (position : x.position = t.monitor.position) (holdA : x.holdA = t.monitor.holdA) :
      Steady s ((offBridgeB t).setMonitor x) := steady_setMonitor (steady_offBridgeB h) position holdA
  unfold tripB
  exact .ite (steady_addFault (steady_withdrawB (.ite (steady_setDrum (off rfl rfl)) (off rfl rfl))))
    (steady_addFault (.ite (steady_setDrum (off rfl rfl)) (off rfl rfl)))

theorem answerGoes_bridgeBTrip (current : Nat) (s : State) : AnswerGoes s (execBridgeBTrip current s) := by
  unfold execBridgeBTrip
  exact .ite (.stay_done (steady_tripB (.refl s))) (.idle s)

theorem answerGoes_bridgeBTripWaitEnd (s : State) : AnswerGoes s (execBridgeBTripWaitEnd s) :=
  .stay (steady_setMonitor (.refl s))

theorem steady_readSensor {x : Sensor} {reading : Int} (h : Steady s t) : Steady s (readSensor x reading t) := by
  unfold readSensor
  exact .ite (.ite (steady_setSensor h) (.ite (steady_failSensor h) (steady_setSensor h))) (steady_setSensor h)

theorem answerGoes_temperatureReading (ts1 die : Int) (s : State) : AnswerGoes s (execTemperatureReading ts1 die s) :=
  .done (goes_thermalChange (steady_setMonitor (steady_readSensor (steady_readSensor (steady_setPins (.refl s))))))

theorem answerGoes_thermalSensorFault (x : Sensor) (reading : Int) (s : State) :
    AnswerGoes s (execThermalSensorFault x reading s) := by
  unfold execThermalSensorFault
  exact .ite (.done (goes_thermalChange (steady_failSensor (.refl s)))) (.idle s)

end Sys2Proof.NodeControl
end

section
/-! SUPPORT and THEOREM. Every command in the relations of this part, the four that do more than `Goes` apart, and the
obligations on what every command and every step keeps. -/

namespace Sys2Proof.NodeControl

open Sys2Proof Sys2Proof.Machine Sys2Proof.Safety

variable {s t u : State} {c : Instr}

/-! ## The end of a step (R43) -/

theorem sameButReport_placeReport (s : State) : SameButReport s (placeReport s) := by
  unfold placeReport
  rw [placeFrame_frame_of_ne (k := .report) (by decide)]
  rfl

theorem sameButReport_trans (h : SameButReport s t) (k : SameButReport t u) : SameButReport s u := by
  unfold SameButReport at h k ⊢
  rw [h] at k
  exact k

theorem sameButReport_settle (s : State) : SameButReport s (settle s) := by
  have unmarked : SameButReport s (s.setNode { s.node with eventDue := false }) := rfl
  unfold settle
  split
  · dsimp only
    split
    · exact sameButReport_trans unmarked (sameButReport_placeReport _)
    · split
      · exact sameButReport_trans unmarked (sameButReport_placeReport _)
      · rfl
  · rfl

theorem settle_intake (s : State) : (settle s).intake = s.intake := by
  rw [sameButReport_settle s]

theorem settle_drive (s : State) : (settle s).drive = s.drive := by
  rw [sameButReport_settle s]

/-! ## POWER_ON_RESET, UPTIME_TICK and a millisecond -/

/-- From `s` to `t` the invariants of O7 and O27 are kept. -/
structure Kept (s t : State) : Prop where
  image : ImageInv s → ImageInv t
  outputs : OutputsInv s → OutputsInv t
  dark : CutoffDarkInv s → CutoffDarkInv t

theorem Lasting.kept (h : Lasting s t) : Kept s t := ⟨h.image, h.outputs, h.dark⟩

/-- The invariants read no timer, no clock, no waiting command and no sample. -/
theorem kept_of_same (image : t.node.image = s.node.image := by rfl) (state : t.node.state = s.node.state := by rfl)
    (position : t.monitor.position = s.monitor.position := by rfl) (holdA : t.monitor.holdA = s.monitor.holdA := by rfl)
    (bridgeA : t.bridgeA = s.bridgeA := by rfl) (bridgeB : t.bridgeB = s.bridgeB := by rfl)
    (channels : t.lights.channels = s.lights.channels := by rfl) : Kept s t where
  image := imageInv_of_same image
  outputs inv :=
    { stepInCheck := by rw [position, state]; exact inv.stepInCheck
      holdSafe := fun m hm => inv.holdSafe m (holdA ▸ hm)
      nextA := fun d => allowsA_of_same (inv.nextA (bridgeA ▸ d)) state position
      activeA := fun d => allowsA_of_same (inv.activeA (bridgeA ▸ d)) state position
      nextB := fun d => allowsB_of_same (inv.nextB (bridgeB ▸ d)) state position
      activeB := fun d => allowsB_of_same (inv.activeB (bridgeB ▸ d)) state position }
  dark inv := by simpa only [CutoffDarkInv, state, channels] using inv

theorem kept_clockTick (s : State) : Kept s (clockTick s) := kept_of_same

theorem kept_uptimeTick (s : State) :
    Kept s (s.setNode { s.node with uptime := bumpTo 16777215 s.node.uptime, uptimeTimer := 0 }) := kept_of_same

/-- The state after a power-on reset (R39). -/
def poweredOn (s : State) : State :=
  { State.reset with
    now := s.now, pins := s.pins, node := { Node.reset with serial := s.node.serial }, pending := s.pending }

theorem kept_poweredOn (s : State) : Kept s (poweredOn s) where
  image _ := imageInv_of_none rfl
  outputs _ := (kept_of_same (s := State.reset)).outputs TrailBus.outputsInv_reset
  dark _ := nofun

/-! ## ASSIGN -/

/-- An ASSIGN leaves the node in its state, or takes it from CONFLICT to LISTEN (R33). -/
structure Assigns (s t : State) : Prop extends Lasting s t where
  state : t.node.state = s.node.state ∨ s.node.state = .conflict ∧ t.node.state = .listen

theorem Steady.assigns (h : Steady s t) : Assigns s t := ⟨h.lasting, .inl h.state⟩

/-- The position and the conflict data stand in no invariant, and without an image it has its ranges. -/
theorem lasting_newPosition {p : Position} (h : Steady s t) :
    Lasting s (t.setNode { t.node with position := some p, conflict := none, image := none }) :=
  h.lasting.trans (lasting_setImage (fun _ hi => by cases hi) rfl)

theorem assigns_takeAssign {serial : BitVec 24} {position : Nat} (h : Steady s t) :
    Assigns s (takeAssign serial position t) := by
  have refused : Assigns s (refuseAssign t) := (steady_placeNotice (steady_setNode h)).assigns
  unfold takeAssign
  split
  next mine =>
    cases posOfCode position with
    | none => exact refused
    | some p =>
      dsimp only
      split
      · exact refused
      · exact ⟨lasting_enterListen (lasting_restartBlocks (lasting_newPosition h)),
          .inr ⟨h.state.symm.trans mine.1, enterListen_state _⟩⟩
  next => exact (steady_setNode h).assigns

theorem execAssign_assigns (s : State) : ∃ t, execAssign s = .next t ∧ Assigns s t := by
  have popped : Steady s (popQueue s) := steady_popQueue (.refl s)
  unfold execAssign
  split
  · exact ⟨s, rfl, (Steady.refl s).assigns⟩
  · split
    · exact ⟨_, rfl, popped.assigns⟩
    · exact ⟨_, rfl, assigns_takeAssign popped⟩

/-! ## COMMAND -/

/-- A COMMAND leaves the node in its state, or takes it to RUN from SAFE or FAILSAFE with a neutral record, the ramp at 0
(R29, R72, R73). -/
structure Commands (s t : State) : Prop extends Lasting s t where
  state : t.node.state = s.node.state ∨ ((s.node.state = .safe ∨ s.node.state = .failsafe) ∧ t.node.state = .run ∧
    isNeutral (fieldsOf s).drive.throttleDeadband t.intake.record = true ∧ t.drive.ramped = 0)

theorem Steady.commands (h : Steady s t) : Commands s t := ⟨h.lasting, .inl h.state⟩

theorem Commands.ite {p : Prop} [Decidable p] (h : Commands s t) (k : Commands s u) : Commands s (if p then t else u) := by
  split
  · exact h
  · exact k

theorem steady_offerCommand (h : Steady s t) : Steady s (offerCommand t) := steady_setSteer (steady_setSteer h)

theorem enterRun_state (s : State) : (enterRun s).node.state = .run := by
  unfold enterRun
  rw [moveTo_eq]
  rfl

/-- RUN is entered from SAFE or FAILSAFE by a neutral command (R29, R72). -/
theorem commands_enterRun (h : Steady s t) (left : s.node.state = .safe ∨ s.node.state = .failsafe)
    (neutral : isNeutral (fieldsOf t).drive.throttleDeadband t.intake.record = true) :
    Commands s (offerCommand (enterRun t)) := by
  have notCheck : t.node.state ≠ .check := by
    rw [h.state]
    rcases left with e | e <;> rw [e] <;> nofun
  have offered : Steady (enterRun t) (offerCommand (enterRun t)) := steady_offerCommand (.refl _)
  have fields : fieldsOf t = fieldsOf s := by simp only [fieldsOf, h.image]
  refine ⟨(lasting_enterRun h.lasting (idle_of_ne_check notCheck)).steady offered,
    .inr ⟨left, offered.state.trans (enterRun_state t), ?_, rfl⟩⟩
  rwa [← fields]

theorem commands_judgeCommand (h : Steady s t) : Commands s (judgeCommand t) := by
  unfold judgeCommand
  dsimp only
  split
  next safe =>
    split
    next neutral => exact .ite (steady_offerCommand h).commands (commands_enterRun h (.inl (h.state ▸ safe)) neutral)
    next => exact (steady_offerCommand (steady_setNode h)).commands
  next => exact (steady_offerCommand h).commands
  next failsafe =>
    split
    next neutral => exact commands_enterRun h (.inr (h.state ▸ failsafe)) neutral
    next => exact h.commands
  all_goals exact h.commands

theorem commands_dealCommand {sender : Nat} {payload : List Byte} (h : Steady s t) :
    Commands s (dealCommand sender payload t) := by
  have refreshed : Steady s (refreshLink sender t) := steady_setIntake h
  unfold dealCommand
  refine .ite h.commands ?_
  split
  · exact h.commands
  · exact .ite refreshed.commands (commands_judgeCommand (steady_setIntake refreshed))

theorem Commands.settle (h : Commands s t) : Commands s (settle t) := by
  have settled : Steady t (Machine.settle t) := steady_settle (.refl t)
  refine ⟨h.toLasting.steady settled, ?_⟩
  rw [settled.state, settle_intake, settle_drive]
  exact h.state

theorem execCommand_commands (s : State) : ∃ t, execCommand s = .next t ∧ Commands s t := by
  unfold execCommand
  split
  · exact ⟨s, rfl, (Steady.refl s).commands⟩
  · exact ⟨_, rfl, (commands_dealCommand (steady_popQueue (.refl s))).settle⟩

/-! ## Every command -/

/-- The commands that do more than `Goes` says. -/
def DoesMore (c : Instr) : Prop := c = .powerOnReset ∨ c = .uptimeTick ∨ c = .assign ∨ c = .command

theorem answerGoes_exec (s : State) (other : ¬ DoesMore c) : AnswerGoes s (exec c s) := by
  cases c with
  | powerOnReset => exact absurd (.inl rfl) other
  | uptimeTick => exact absurd (.inr (.inl rfl)) other
  | assign => exact absurd (.inr (.inr (.inl rfl))) other
  | command => exact absurd (.inr (.inr (.inr rfl))) other
  | busIdle => exact answerGoes_busIdle s
  | frameReceived bytes => exact answerGoes_frameReceived bytes s
  | receptionFailed how => exact answerGoes_receptionFailed how s
  | breakRecognised => exact answerGoes_breakRecognised s
  | attemptStart => exact answerGoes_attemptStart s
  | arbitrationLost => exact answerGoes_arbitrationLost s
  | lineFault => exact answerGoes_lineFault s
  | collision => exact answerGoes_collision s
  | backoffExpiry kind => exact answerGoes_backoffExpiry kind s
  | attemptComplete => exact answerGoes_attemptComplete s
  | breakEnd => exact answerGoes_breakEnd s
  | strapReadSuccess p => exact answerGoes_strapReadSuccess p s
  | strapReadFail last => exact answerGoes_strapReadFail last s
  | silenceTimerExpiry => exact answerGoes_silenceTimerExpiry s
  | defaultTimerExpiry => exact answerGoes_defaultTimerExpiry s
  | config => exact answerGoes_config s
  | ownStationFrame => exact answerGoes_ownStationFrame s
  | conflictNoticeTimer => exact answerGoes_conflictNoticeTimer s
  | reportTimerExpiry => exact answerGoes_reportTimerExpiry s
  | heldEventSpacingExpiry => exact answerGoes_heldEventSpacingExpiry s
  | report => exact answerGoes_report s
  | peerLost station => exact answerGoes_peerLost station s
  | winch => exact answerGoes_winch s
  | winchLinkExpiry => exact answerGoes_winchLinkExpiry s
  | checkRecord => exact answerGoes_answerOk s
  | fault => exact answerGoes_fault s
  | winchLog => exact answerGoes_winchLog s
  | counters => exact answerGoes_answerOk s
  | image => exact answerGoes_answerOk s
  | budget => exact answerGoes_answerOk s
  | restart => exact answerGoes_restart s
  | recheck => exact answerGoes_recheck s
  | queryUnknownCode => exact answerGoes_queryUnknownCode s
  | linkExpiry => exact answerGoes_linkExpiry s
  | failsafeStage2 => exact answerGoes_failsafeStage2 s
  | budgetTick r => exact answerGoes_budgetTick r s
  | peerCutoffTest => exact answerGoes_peerCutoffTest s
  | actuatorTick pot isb => exact answerGoes_actuatorTick pot isb s
  | steerStall => exact answerGoes_steerStall s
  | stallLimitEnd => exact answerGoes_stallLimitEnd s
  | steerSensorLost pot => exact answerGoes_steerSensorLost pot s
  | driveTick isa => exact answerGoes_driveTick isa s
  | encoderEdge dir interval => exact answerGoes_encoderEdge dir interval s
  | encoderEdgeTimeout => exact answerGoes_encoderEdgeTimeout s
  | encoderLost => exact answerGoes_encoderLost s
  | encoderRecovered => exact answerGoes_encoderRecovered s
  | overcurrentTrip current => exact answerGoes_overcurrentTrip current s
  | tripWaitEnd => exact answerGoes_tripWaitEnd s
  | controlTick isa isb => exact answerGoes_controlTick isa isb s
  | limitAcceptance sw0 sw1 => exact answerGoes_limitAcceptance sw0 sw1 s
  | engageDelayEnd => exact answerGoes_engageDelayEnd s
  | winchStall => exact answerGoes_winchStall s
  | winchTimerExpiry => exact answerGoes_winchTimerExpiry s
  | beatEvent => exact answerGoes_beatEvent s
  | beatTaken => exact answerGoes_beatTaken s
  | lampShort l current => exact answerGoes_lampShort l current s
  | supplyTestRetry vpack => exact answerGoes_supplyTestRetry vpack s
  | pullTestEnd out vpack => exact answerGoes_pullTestEnd out vpack s
  | loadPulseEnd current => exact answerGoes_loadPulseEnd current s
  | loadPulseTrip current => exact answerGoes_loadPulseTrip current s
  | lampPresenceTestEnd pin vpack => exact answerGoes_lampPresenceTestEnd pin vpack s
  | lampRatingEnd mean => exact answerGoes_lampRatingEnd mean s
  | lampRatingShort current => exact answerGoes_lampRatingShort current s
  | sweepStopFound pot => exact answerGoes_sweepStopFound pot s
  | sweepPhaseTimeout => exact answerGoes_sweepPhaseTimeout s
  | sweepFault => exact answerGoes_sweepFault s
  | sweepReturnEnd => exact answerGoes_sweepReturnEnd s
  | supplyDip vpack => exact answerGoes_supplyDip vpack s
  | bridgeBTrip current => exact answerGoes_bridgeBTrip current s
  | bridgeBTripWaitEnd => exact answerGoes_bridgeBTripWaitEnd s
  | temperatureReading ts1 die => exact answerGoes_temperatureReading ts1 die s
  | thermalSensorFault x reading => exact answerGoes_thermalSensorFault x reading s
  | frameStart => exact answerGoes_frameStart s
  | pwmPeriodBoundary => exact answerGoes_pwmPeriodBoundary s

/-- Every command goes on, and a command other than the four does what `Goes` says. -/
theorem exec_cases (c : Instr) (s : State) : ∃ t, exec c s = .next t ∧
    ((c = .powerOnReset ∧ t = poweredOn s) ∨
     (c = .uptimeTick ∧ t = s.setNode { s.node with uptime := bumpTo 16777215 s.node.uptime, uptimeTimer := 0 }) ∨
     (c = .assign ∧ Assigns s t) ∨ (c = .command ∧ Commands s t) ∨ Goes s t) := by
  by_cases more : DoesMore c
  · rcases more with rfl | rfl | rfl | rfl
    · exact ⟨_, rfl, .inl ⟨rfl, rfl⟩⟩
    · exact ⟨_, rfl, .inr (.inl ⟨rfl, rfl⟩)⟩
    · obtain ⟨t, next, assigns⟩ := execAssign_assigns s
      exact ⟨t, next, .inr (.inr (.inl ⟨rfl, assigns⟩))⟩
    · obtain ⟨t, next, commands⟩ := execCommand_commands s
      exact ⟨t, next, .inr (.inr (.inr (.inl ⟨rfl, commands⟩)))⟩
  · obtain ⟨t, next, goes⟩ := answerGoes_exec s more
    exact ⟨t, next, .inr (.inr (.inr (.inr goes)))⟩

/-- The same, for a command that is known to go on to `t`. -/
theorem cases_of_exec (next : exec c s = .next t) :
    (c = .powerOnReset ∧ t = poweredOn s) ∨
    (c = .uptimeTick ∧ t = s.setNode { s.node with uptime := bumpTo 16777215 s.node.uptime, uptimeTimer := 0 }) ∨
    (c = .assign ∧ Assigns s t) ∨ (c = .command ∧ Commands s t) ∨ Goes s t := by
  obtain ⟨u, onward, what⟩ := exec_cases c s
  cases next.symm.trans onward
  exact what

theorem kept_exec (next : exec c s = .next t) : Kept s t := by
  rcases cases_of_exec next with ⟨_, rfl⟩ | ⟨_, rfl⟩ | ⟨_, assigns⟩ | ⟨_, commands⟩ | goes
  · exact kept_poweredOn s
  · exact kept_uptimeTick s
  · exact assigns.kept
  · exact commands.kept
  · exact goes.kept

theorem kept_step (h : step s = .next t) : Kept s t := by
  unfold step at h
  split at h
  · cases h
    exact kept_clockTick s
  next c rest _ =>
    have taken : Kept s (s.setPending rest) := kept_of_same
    have after := kept_exec h
    exact ⟨after.image ∘ taken.image, after.outputs ∘ taken.outputs, after.dark ∘ taken.dark⟩

/-! ## The obligations -/

/-- Settles O3, by what each command is shown to do. -/
theorem everyCommandGoesOn : Obligations.EveryCommandGoesOn := by
  intro c s
  obtain ⟨t, next, what⟩ := exec_cases c s
  refine ⟨t, next, ?_⟩
  have lasts (h : Lasting s t) : t.pending = s.pending ∧ t.now = s.now ∧ t.node.serial = s.node.serial ∧
      (c ≠ .uptimeTick → c ≠ .powerOnReset → t.node.uptime = s.node.uptime) :=
    ⟨h.pending, h.now, h.serial, fun _ _ => h.uptime⟩
  rcases what with ⟨rfl, rfl⟩ | ⟨rfl, rfl⟩ | ⟨_, assigns⟩ | ⟨_, commands⟩ | goes
  · exact ⟨rfl, rfl, rfl, fun _ no => absurd rfl no⟩
  · exact ⟨rfl, rfl, rfl, fun no _ => absurd rfl no⟩
  · exact lasts assigns.toLasting
  · exact lasts commands.toLasting
  · exact lasts goes.toLasting

/-- Settles O5: only POWER_ON_RESET leaves CUTOFF, and of the commands that act in CONFLICT each leads where it may. -/
theorem cutoffAndConflictEndAsRuled : Obligations.CutoffAndConflictEndAsRuled := by
  constructor
  · intro c s t inv cutoff notReset next
    rcases cases_of_exec next with ⟨rfl, _⟩ | ⟨_, rfl⟩ | ⟨_, assigns⟩ | ⟨_, commands⟩ | goes
    · exact absurd rfl notReset
    · exact cutoff
    · rcases assigns.state with same | ⟨conflict, _⟩
      · exact same.trans cutoff
      · cases cutoff.symm.trans conflict
    · rcases commands.state with same | ⟨safe | failsafe, _⟩
      · exact same.trans cutoff
      · cases cutoff.symm.trans safe
      · cases cutoff.symm.trans failsafe
    · exact goes.cutoff inv cutoff
  · intro c s t inv conflict next
    rcases cases_of_exec next with ⟨rfl, rfl⟩ | ⟨_, rfl⟩ | ⟨rfl, assigns⟩ | ⟨_, commands⟩ | goes
    · exact .inr (.inr (.inr ⟨rfl, rfl⟩))
    · exact .inl conflict
    · rcases assigns.state with same | ⟨_, listen⟩
      · exact .inl (same.trans conflict)
      · exact .inr (.inr (.inl ⟨listen, rfl⟩))
    · rcases commands.state with same | ⟨safe | failsafe, _⟩
      · exact .inl (same.trans conflict)
      · cases conflict.symm.trans safe
      · cases conflict.symm.trans failsafe
    · rcases goes.conflict inv conflict with stays | cutoff
      · exact .inl stays
      · exact .inr (.inl cutoff)

/-- Settles O6: of all commands COMMAND alone leads to RUN, by its entry from SAFE and FAILSAFE. -/
theorem onlyANeutralCommandEntersRun : Obligations.OnlyANeutralCommandEntersRun := by
  intro c s t notRun next run
  rcases cases_of_exec next with ⟨_, rfl⟩ | ⟨_, rfl⟩ | ⟨_, assigns⟩ | ⟨rfl, commands⟩ | goes
  · cases run
  · exact absurd run notRun
  · rcases assigns.state with same | ⟨_, listen⟩
    · exact absurd (same.symm.trans run) notRun
    · cases listen.symm.trans run
  · rcases commands.state with same | ⟨left, _, neutral, ramped⟩
    · exact absurd (same.symm.trans run) notRun
    · simp only [isNeutral, Bool.and_eq_true, decide_eq_true_eq] at neutral
      exact ⟨rfl, left, neutral.1, neutral.2, ramped⟩
  · exact absurd (goes.run run) notRun

/-- Settles O7: every command and every millisecond keeps both invariants. -/
theorem stepKeepsOutputsInv : Obligations.StepKeepsOutputsInv :=
  ⟨fun _ _ inv next => (kept_step next).outputs inv, fun _ _ inv next => (kept_step next).dark inv⟩

/-- Settles O27: the image's bytes by their clamps and relations, the image in force as what every step keeps. -/
theorem imageStaysInItsRanges : Obligations.ImageStaysInItsRanges :=
  ⟨⟨inRanges_imageFields, clampedCount_eq_zero_iff, imageFields_default, clampedCount_default, imageAccepted_default⟩,
    fun _ _ inv next => (kept_step next).image inv⟩

end Sys2Proof.NodeControl
end

section
/-! THEOREM. The power-on reset (R39). -/

namespace Sys2Proof.NodeControl

open Sys2Proof Sys2Proof.Machine Sys2Proof.Safety

/-- Settles O4: the reset writes every block, and each field of the reset state has its value. -/
theorem powerOnResetClearsEveryBlock : Obligations.PowerOnResetClearsEveryBlock := by
  refine ⟨fun s => ⟨poweredOn s, rfl, ?_⟩, ?_⟩
  · repeat' apply And.intro
    all_goals rfl
  · refine ⟨rfl, rfl, rfl, rfl, rfl, fun k => ?slot, rfl, by decide, ?_⟩
    case slot => cases k <;> exact ⟨rfl, rfl⟩
    repeat' apply And.intro
    all_goals rfl

end Sys2Proof.NodeControl
end

section
/-! SUPPORT. What entering LISTEN and CONFLICT leaves, block by block, the drum apart. -/

namespace Sys2Proof.NodeControl

open Sys2Proof Sys2Proof.Machine Sys2Proof.Safety

variable {s t u : State}

/-! ## Leaving the serving states -/

/-- The entry to a state that serves no commands, with the CHECK step abandoned. -/
def movedOut (st : NodeState) (s : State) : State :=
  { s with
    node := { s.node with state := st, staging := [], silenceTimer := none, defaultTimer := none, armWait := false }
    power := { s.power with allowance := 0, grants := Consumers.zero }
    winch := { s.winch with winchTimer := none }
    lights := { s.lights with brakeHold := 0 }
    monitor := { s.monitor with
      position := none, waiting := false, newRatings := Quad.all none
      record := { s.monitor.record with inProgress := false } } }

theorem abandonCheck_moveTo {st : NodeState} (idle : isServing st = false) (s : State) :
    abandonCheck (moveTo st s) = movedOut st s := by
  rw [moveTo_eq, idle]
  rfl

/-- On a node that is not on the winch position, all that going safe changes. -/
theorem goSafe_of_other (reason : EndReason) (other : roleOf s ≠ .winch) : goSafe reason s = safeOutputs s := by
  unfold goSafe
  rw [releaseDrum_of_other reason (s := endTripWaitB (clearSteer s)) other]
  dsimp only [holdBridgeA, forceBridgeA, zeroDrive, endTripWaitB, clearSteer, offBridgeB, forceBridgeB, State.setBridgeA,
    State.setBridgeB, State.setDrive, State.setMonitor, State.setSteer]
  rfl

/-- The mode of bridge A in the safe hold, outside STRAP (Table 2-3, R193). -/
theorem safeModeA_eq_safeHold (placed : s.node.state ≠ .strap) :
    safeModeA s = safeHold s.monitor.withdrawn.bridgeA s.monitor.holdA (roleOf s) := by
  unfold safeModeA safeHold
  rw [if_neg placed]
  cases roleOf s <;> rfl

/-! ## LISTEN (R25) -/

/-- The lamp functions of a node's position class (R167). -/
def lampsBy (l : ImageLights) (position : Option Position) (x : Lights) : Lights :=
  { x with
    channels := match position with
      | none => x.channels
      | some p => Quad.ofLamp fun c => { x.channels.get c with function := some ((lampsOfClass l p).get c) } }

theorem setFunctions_eq (l : ImageLights) (s : State) :
    setFunctions l s = s.setLights (lampsBy l s.node.position s.lights) := by
  unfold setFunctions lampsBy
  cases s.node.position <;> rfl

/-- The same, and the beat timer running (R169). -/
def litBy (l : ImageLights) (position : Option Position) (x : Lights) : Lights :=
  lampsBy l position { x with beatTimer := if x.beatTimer.isSome then x.beatTimer else some 0 }

theorem startBeat_eq (s : State) : startBeat s =
    s.setLights { s.lights with beatTimer := if s.lights.beatTimer.isSome then s.lights.beatTimer else some 0 } := by
  by_cases running : s.lights.beatTimer.isSome
  · rw [startBeat, if_pos running, if_pos running]
    rfl
  · rw [startBeat, if_neg running, if_neg running]

theorem startBeat_setFunctions (l : ImageLights) (s : State) :
    startBeat (setFunctions l s) = s.setLights (litBy l s.node.position s.lights) := by
  rw [startBeat_eq, setFunctions_eq]
  rfl

/-- LISTEN as entered, the drum apart. -/
def listenEntered (s : State) : State :=
  let u := clearIntake (safeOutputs (movedOut .listen s))
  { u with
    node := { u.node with
      silenceTimer := some 0, defaultTimer := some 0, reportTimer := none, sinceReport := none, heldEvent := false
      eventDue := false, noticeTimer := none }
    power := { u.power with timer := 0 }
    lights := litBy defaultFields.lights u.node.position u.lights }

/-- What follows going safe at the entry to LISTEN. -/
def listenFrom (s : State) : State :=
  let s1 := clearIntake s
  let s2 := s1.setNode { s1.node with
    silenceTimer := some 0, defaultTimer := some 0, reportTimer := none, sinceReport := none, heldEvent := false
    eventDue := false, noticeTimer := none }
  let s3 := s2.setPower { s2.power with timer := 0 }
  s3.setLights (litBy defaultFields.lights s3.node.position s3.lights)

theorem enterListen_eq (s : State) : enterListen s = listenFrom (goSafe .fault (movedOut .listen s)) := by
  rw [← abandonCheck_moveTo rfl]
  exact startBeat_setFunctions _ _

theorem listenFrom_safeOutputs (s : State) : listenFrom (safeOutputs (movedOut .listen s)) = listenEntered s := rfl

theorem enterListen_changes (s : State) : SameButDrum (listenEntered s) (enterListen s) := by
  rw [enterListen_eq, ← listenFrom_safeOutputs]
  exact congrArg listenFrom (goSafe_changes .fault (movedOut .listen s))

theorem enterListen_of_other (other : roleOf s ≠ .winch) : enterListen s = listenEntered s := by
  rw [enterListen_eq, goSafe_of_other .fault (s := movedOut .listen s) other, listenFrom_safeOutputs]

/-! ## CONFLICT (R31) -/

/-- In CONFLICT no REPORT is placed, so an event has no effect (R42, R43). -/
theorem raiseEvent_conflict {e : ReportEvent} (conflict : s.node.state = .conflict) : raiseEvent e s = s :=
  raiseEvent_of_silent (by simp [reportsNow, conflict])

/-- The fault record of an entry to CONFLICT. -/
def conflictRecord (cause : ConflictCause) (s : State) : FaultRecord :=
  { kind := .conflict, output := .none, state := s.node.state, uptime := s.node.uptime
    detail := clampInt (-32768) 32767 (conflictCauseCode cause) }

/-- What follows going safe at the entry to CONFLICT, its notice apart. -/
def conflictFrom (cause : ConflictCause) (strapCode : Nat) (r : FaultRecord) (s : State) : State :=
  let s1 := s.setNode { s.node with
    conflict := some { cause, strapCode, refused := false }, reportTimer := none, heldEvent := false, eventDue := false
    noticeTimer := none }
  clearIntake (s1.setMonitor { s1.monitor with faults := (r :: s1.monitor.faults).take 8 })

/-- CONFLICT as entered, the drum and the notice apart. -/
def conflictEntered (cause : ConflictCause) (strapCode : Nat) (s : State) : State :=
  conflictFrom cause strapCode (conflictRecord cause s) (safeOutputs (movedOut .conflict s))

theorem addFaultIn_conflict {st : NodeState} {kind : FaultKind} {output : FaultOutput} {detail : Int}
    (conflict : s.node.state = .conflict) : addFaultIn st kind output detail s = s.setMonitor { s.monitor with
      faults := ({ kind, output, state := st, uptime := s.node.uptime, detail := clampInt (-32768) 32767 detail } ::
        s.monitor.faults).take 8 } := raiseEvent_conflict conflict

theorem enterConflict_eq (cause : ConflictCause) (strapCode : Nat) (s : State) : enterConflict cause strapCode s =
    startBeat (placeNotice (conflictFrom cause strapCode (conflictRecord cause s) (goSafe .fault (movedOut .conflict s)))) := by
  have safe := steady_goSafe (reason := .fault) (.refl (movedOut .conflict s))
  unfold enterConflict conflictFrom conflictRecord
  rw [abandonCheck_moveTo rfl]
  dsimp only
  rw [addFaultIn_conflict (by exact safe.state), ← (by exact safe.uptime : _ = s.node.uptime)]
  rfl

theorem conflictFrom_changes (cause : ConflictCause) (strapCode : Nat) (s : State) :
    SameButDrum (conflictEntered cause strapCode s)
      (conflictFrom cause strapCode (conflictRecord cause s) (goSafe .fault (movedOut .conflict s))) :=
  congrArg (conflictFrom cause strapCode (conflictRecord cause s)) (goSafe_changes .fault (movedOut .conflict s))

/-- A notice placed by station `n` (R32). -/
def noticed (n : Nat) (payload : List Byte) (s : State) : State :=
  { s with
    node := { s.node with noticeTimer := some 0 }
    bus := { s.bus with slots := { s.bus.slots with
      report := (s.bus.slots.report.place (decide (lineKind s = some .report)) { sender := n, payload }).1 } } }

theorem placeFrame_report {n : Nat} (payload : List Byte) (station : stationOf s = some n) : placeFrame .report payload s =
    s.setBus { s.bus with slots := { s.bus.slots with
      report := (s.bus.slots.report.place (decide (lineKind s = some .report)) { sender := n, payload }).1 } } := by
  rw [placeFrame_frame_of_ne (k := .report) (by decide), placeFrame_slot .report payload s n station, Slots.get_put_self]
  rfl

theorem placeNotice_eq {n : Nat} {c : ConflictData} (station : stationOf s = some n) (conflict : s.node.conflict = some c) :
    placeNotice s = noticed n (noticePayload s.node.serial c.refused c.strapCode) s := by
  unfold placeNotice
  rw [conflict, station]
  dsimp only
  rw [placeFrame_report _ station]
  rfl

/-- Without a station number no notice is placed (R32). -/
theorem placeNotice_unplaced (unplaced : stationOf s = none) : placeNotice s = s := by
  unfold placeNotice
  rw [unplaced]
  split
  · next h => cases h
  · rfl

/-- The beat timer runs (R169). -/
def beating (s : State) : State :=
  { s with lights := { s.lights with
      beatTimer := if s.lights.beatTimer.isSome then s.lights.beatTimer else some 0 } }

theorem enterConflict_of_station {cause : ConflictCause} {strapCode n : Nat} (station : stationOf s = some n) :
    SameButDrum (beating (noticed n (noticePayload s.node.serial false strapCode) (conflictEntered cause strapCode s)))
      (enterConflict cause strapCode s) := by
  have changes := conflictFrom_changes cause strapCode s
  have stationStays : stationOf (conflictFrom cause strapCode (conflictRecord cause s)
      (goSafe .fault (movedOut .conflict s))) = some n := by
    rw [changes]
    exact station
  have serial : (conflictFrom cause strapCode (conflictRecord cause s)
      (goSafe .fault (movedOut .conflict s))).node.serial = s.node.serial := by
    rw [changes]
    rfl
  rw [enterConflict_eq, placeNotice_eq stationStays rfl, serial, startBeat_eq]
  exact congrArg (fun t => beating (noticed n (noticePayload s.node.serial false strapCode) t)) changes

theorem enterConflict_unplaced {cause : ConflictCause} {strapCode : Nat} (unplaced : s.node.position = none) :
    enterConflict cause strapCode s = beating (conflictEntered cause strapCode s) := by
  have other : roleOf (movedOut .conflict s) ≠ .winch := by
    have role : roleOf (movedOut .conflict s) = .unplaced := by
      unfold roleOf movedOut
      rw [unplaced]
    rw [role]
    nofun
  have station : stationOf (conflictEntered cause strapCode s) = none := congrArg (Option.map posCode) unplaced
  rw [enterConflict_eq, goSafe_of_other .fault other]
  exact (congrArg startBeat (placeNotice_unplaced station)).trans (startBeat_eq _)

end Sys2Proof.NodeControl
end

section
/-! THEOREM. The strap reading and the own-station frame, by what the entries to LISTEN and CONFLICT leave. -/

namespace Sys2Proof.NodeControl

open Sys2Proof Sys2Proof.Machine Sys2Proof.Safety

variable {s t u : State}

/-! ## All that an entry changes -/

theorem sameButEntry_of_drum (h : SameButDrum s t) : SameButEntry s t := by
  unfold SameButEntry
  unfold SameButDrum at h
  rw [h]

theorem sameButEntry_trans (h : SameButEntry s t) (k : SameButEntry t u) : SameButEntry s u := by
  unfold SameButEntry at h k ⊢
  rw [h] at k
  exact k

theorem isSome_beatTimer (s : State) : (beating s).lights.beatTimer.isSome = true := by
  show (if s.lights.beatTimer.isSome then s.lights.beatTimer else some 0).isSome = true
  split
  · assumption
  · rfl

/-! ## The outputs held safe -/

/-- A state entered from `s` is held safe in the mode of its own role (R27). -/
theorem heldSafe_safeOutputs (placed : s.node.state ≠ .strap) :
    HeldSafe (safeHold s.monitor.withdrawn.bridgeA s.monitor.holdA (roleOf s)) (safeOutputs s) := by
  rw [← safeModeA_eq_safeHold placed]
  exact ⟨rfl, rfl, rfl, rfl, rfl, rfl, rfl⟩

theorem heldSafe_of_same {m : BridgeMode} (h : HeldSafe m s) (bridgeA : t.bridgeA = s.bridgeA := by rfl)
    (bridgeB : t.bridgeB = s.bridgeB := by rfl) (loop : t.steer.loop = s.steer.loop := by rfl)
    (ramped : t.drive.ramped = s.drive.ramped := by rfl) (integrator : t.drive.integrator = s.drive.integrator := by rfl) :
    HeldSafe m t := by
  simpa only [HeldSafe, bridgeA, bridgeB, loop, ramped, integrator] using h

/-! ## The strap reading (R23) -/

/-- The position as read. -/
def strapped (p : Position) (s : State) : State :=
  s.setNode { s.node with position := some p, strap := { failed := 0, band := none, count := 0, last := some p } }

theorem heldSafe_listenEntered (s : State) :
    HeldSafe (safeHold s.monitor.withdrawn.bridgeA s.monitor.holdA (roleOf s)) (listenEntered s) :=
  heldSafe_of_same (heldSafe_safeOutputs (s := movedOut .listen s) (by nofun))

theorem heldSafe_conflictEntered (cause : ConflictCause) (strapCode : Nat) (s : State) :
    HeldSafe (safeHold s.monitor.withdrawn.bridgeA s.monitor.holdA (roleOf s)) (conflictEntered cause strapCode s) :=
  heldSafe_of_same (heldSafe_safeOutputs (s := movedOut .conflict s) (by nofun))

theorem roleOf_unplaced (unplaced : s.node.position = none) : roleOf s = .unplaced := by
  unfold roleOf
  rw [unplaced]

/-- The reading as failed. -/
def unstrapped (last : Option Position) (s : State) : State :=
  s.setNode { s.node with strap := { failed := 20, band := none, count := 0, last } }

/-- Settles O24: the reading leads to LISTEN, the failing to CONFLICT, by what each entry leaves. -/
theorem strapReadingGivesThePosition : Obligations.StrapReadingGivesThePosition := by
  refine ⟨fun p s => ?success, fun last s => ?fail⟩
  case success =>
    by_cases strap : s.node.state = .strap
    · refine ⟨enterListen (strapped p s), if_pos strap, ?_⟩
      rw [if_pos strap, enterListen_changes (strapped p s)]
      exact ⟨rfl, rfl, rfl, rfl, rfl, rfl, rfl, rfl, heldSafe_listenEntered (strapped p s), rfl,
        isSome_beatTimer (strapped p s), rfl, rfl, rfl⟩
    · refine ⟨s, if_neg strap, rfl, ?_⟩
      rw [if_neg strap]
  case fail =>
    by_cases strap : s.node.state = .strap
    · refine ⟨enterConflict .strap (strapCodeOf last) (unstrapped last s), if_pos strap, ?_⟩
      have record : conflictRecord .strap (unstrapped last s) =
          { kind := .conflict, output := .none, state := .strap, uptime := s.node.uptime, detail := 0 } := by
        unfold conflictRecord
        rw [show (unstrapped last s).node.state = .strap from strap]
        rfl
      have faults := congrArg (fun r => (r :: s.monitor.faults).take 8) record
      rw [if_pos strap]
      cases position : s.node.position with
      | none =>
        have held := heldSafe_conflictEntered .strap (strapCodeOf last) (unstrapped last s)
        rw [roleOf_unplaced (s := unstrapped last s) position] at held
        rw [enterConflict_unplaced (s := unstrapped last s) position]
        exact ⟨rfl, rfl, position, rfl, faults, rfl, rfl, isSome_beatTimer _, fun _ => ⟨rfl, heldSafe_of_same held⟩⟩
      | some p =>
        have station : stationOf (unstrapped last s) = some (posCode p) := congrArg (Option.map posCode) position
        rw [enterConflict_of_station station]
        exact ⟨rfl, rfl, position, rfl, faults, rfl, rfl, isSome_beatTimer _, nofun⟩
    · refine ⟨s, if_neg strap, rfl, ?_⟩
      rw [if_neg strap]

/-! ## The own-station frame (R30) -/

theorem execOwnStationFrame_none (none : headOwn s = none) : execOwnStationFrame s = .next s := by
  unfold execOwnStationFrame
  rw [none]

theorem execOwnStationFrame_some {f : RxFrame} (head : headOwn s = some f) : execOwnStationFrame s =
    .next (if stationOf s = some f.sender ∧ s.node.state ≠ .strap ∧ s.node.state ≠ .cutoff ∧ s.node.state ≠ .conflict then
      enterConflict .duplicate f.sender (popQueue s) else popQueue s) := by
  unfold execOwnStationFrame
  rw [head]
  simp only [Bool.and_eq_true, judgesOwn_iff, decide_eq_true_eq, and_comm]

/-- Settles O29: the frame is taken, and outside STRAP, CUTOFF and CONFLICT a sender of the own number is a conflict. -/
theorem ownStationFrameIsAConflict : Obligations.OwnStationFrameIsAConflict := by
  intro s
  cases head : headOwn s with
  | none => exact ⟨s, execOwnStationFrame_none head, rfl, fun _ => rfl, nofun⟩
  | some f =>
    refine ⟨_, execOwnStationFrame_some head, ?_⟩
    by_cases own : stationOf s = some f.sender ∧ s.node.state ≠ .strap ∧ s.node.state ≠ .cutoff ∧ s.node.state ≠ .conflict
    · have held := heldSafe_conflictEntered .duplicate f.sender (popQueue s)
      rw [if_pos own, enterConflict_of_station (s := popQueue s) own.1]
      refine ⟨rfl, nofun, fun g hg => ?_⟩
      cases hg
      rw [if_pos own]
      exact ⟨rfl, rfl, rfl, rfl, rfl, heldSafe_of_same held, rfl, rfl, rfl, rfl, rfl, rfl, rfl, rfl, rfl⟩
    · rw [if_neg own]
      refine ⟨rfl, nofun, fun g hg => ?_⟩
      cases hg
      rw [if_neg own]
      rfl

end Sys2Proof.NodeControl
end

section
/-! SUPPORT and THEOREM. Every block at RESTART and at an accepted ASSIGN (Table 2-7), and the ASSIGN itself. -/

namespace Sys2Proof.NodeControl

open Sys2Proof Sys2Proof.Machine Sys2Proof.Safety

variable {s t u : State} {p : Position}

/-! ## Every block at RESTART -/

/-- The blocks at RESTART, with a given ANSWER slot. -/
def restartedWith (a : Slot) (s : State) : State :=
  { restartBlocks s with bus := { (restartBlocks s).bus with slots := { (restartBlocks s).bus.slots with answer := a } } }

theorem roleOf_of_no_image (image : s.node.image = none) : roleOf s ≠ .winch := by
  unfold roleOf
  rw [image]
  split
  · nofun
  · split <;> nofun

theorem safeHold_of_no_image (position : s.node.position = some p) (image : s.node.image = none) :
    safeHold false none (roleOf s) = if posCode p ≤ 6 then .brake else .off := by
  unfold safeHold roleOf
  rw [position, image]
  cases p <;> rfl

/-- The blocks as RESTART leaves them, with a given ANSWER slot. -/
theorem restartedWith_eq (a : Slot) (s : State) : restartedWith a s = { blocksReset s with
    bus := { s.bus.restart with slots := { s.bus.restart.slots with answer := a } }
    bridgeA := { s.bridgeA.force (safeModeA (blocksReset s)) 0 with used := drivesMode (safeModeA (blocksReset s)) }
    bridgeB := { s.bridgeB.force .off 0 with used := false } } := by
  unfold restartedWith
  rw [restartBlocks_eq]
  rfl

/-- Nothing has used the bridges since RESTART: the safe hold drives nothing. -/
theorem unused_listenEntered (a : Slot) (s : State) : (listenEntered (restartedWith a s)).bridgeA.used = false ∧
    (listenEntered (restartedWith a s)).bridgeB.used = false := by
  have reset : drivesMode (safeModeA (blocksReset s)) = false := drivesMode_safeModeA (holdIsSafe_of_none rfl)
  have moved : drivesMode (safeModeA (movedOut .listen (restartedWith a s))) = false := by
    rw [restartedWith_eq]
    exact drivesMode_safeModeA (holdIsSafe_of_none rfl)
  rw [restartedWith_eq] at moved ⊢
  exact ⟨Bool.or_eq_false_iff.2 ⟨reset, moved⟩, rfl⟩

theorem restartedAt_listenEntered (a : Slot) (position : s.node.position = some p) :
    RestartedAt p s (listenEntered (restartedWith a s)) := by
  have held := heldSafe_listenEntered (restartedWith a s)
  have unused := unused_listenEntered a s
  rw [restartedWith_eq] at held unused ⊢
  refine ⟨?node, ?bus, rfl, rfl, rfl, rfl, rfl, rfl, ?lights, rfl, ?held, unused.1, unused.2, rfl, rfl, rfl⟩
  case node =>
    rw [← position]
    rfl
  case bus => rfl
  case lights =>
    have lit : ∀ x : State, (listenEntered x).lights =
        litBy defaultFields.lights x.node.position { x.lights with brakeHold := 0 } := fun _ => rfl
    rw [lit]
    show litBy defaultFields.lights s.node.position _ = _
    rw [position]
    rfl
  case held =>
    have hold := safeHold_of_no_image (s := blocksReset s) position rfl
    rw [← hold]
    exact held

theorem log_listenEntered (a : Slot) (s : State) : (listenEntered (restartedWith a s)).winch.log = s.winch.log := by
  rw [restartedWith_eq]
  rfl

/-! ## ASSIGN (R33) -/

theorem posOfCode_eq_none_iff (n : Nat) : posOfCode n = none ↔ n = 0 ∨ 8 < n := by
  match n with
  | 0 => simp [posOfCode]
  | 1 | 2 | 3 | 4 | 5 | 6 | 7 | 8 => simp [posOfCode]
  | k + 9 => simp [posOfCode, show 8 < k + 9 by omega]

theorem posCode_of_posOfCode {n : Nat} (h : posOfCode n = some p) : posCode p = n := by
  unfold posOfCode at h
  split at h <;> cases h <;> rfl

/-- An ASSIGN as its four bytes give it (Table 11-5). -/
theorem readAssign_eq (payload : List Byte) : readAssign payload =
    if payload.length ≠ 4 then none
    else some (BitVec.ofNat 24 (be24 (payload.getD 0 0#8) (payload.getD 1 0#8) (payload.getD 2 0#8)),
      (payload.getD 3 0#8).toNat) := by
  unfold readAssign
  split
  next => rfl
  next other =>
    rw [if_pos]
    intro four
    obtain ⟨a, b, c, d, rfl⟩ := List.length_eq_four.1 four
    exact other a b c d rfl

theorem ofNat_be24_eq_iff (a b c : Byte) (serial : BitVec 24) : BitVec.ofNat 24 (be24 a b c) = serial ↔
    be24 a b c = serial.toNat := by
  have below : be24 a b c < 2 ^ 24 := by
    unfold be24
    omega
  rw [← BitVec.toNat_inj, BitVec.toNat_ofNat, Nat.mod_eq_of_lt below]

/-- A station with a FRESH entry in the table (R33, Table 3-5). -/
theorem freshAt_eq (x : Peers) (station : Nat) :
    freshAt x station = x.table.any fun e => e.station = station && e.age ≤ 60 := by
  have fresh (e : PeerEntry) : (freshnessOf e.age = .fresh) ↔ e.age ≤ 60 := by
    unfold freshnessOf
    split
    · simp [*]
    · split <;> simp [*]
  simp only [freshAt, freshPeers, List.any_filter, fresh, Bool.and_comm]

/-- The conflict data of a refused ASSIGN (R33). -/
def refusal (s : State) : State :=
  s.setNode { s.node with conflict := s.node.conflict.map fun c => { c with refused := true } }

theorem refuseAssign_noticed {c : ConflictData} {n : Nat} (conflict : s.node.conflict = some c) (station : stationOf s = some n) :
    refuseAssign s = noticed n (noticePayload s.node.serial true c.strapCode) (refusal s) := by
  have marked : (refusal s).node.conflict = some { c with refused := true } := by
    unfold refusal
    rw [conflict]
    rfl
  exact placeNotice_eq (s := refusal s) station marked

theorem refuseAssign_unnoticed (silent : s.node.conflict = none ∨ stationOf s = none) : refuseAssign s = refusal s := by
  rcases silent with conflict | station
  · have unmarked : (refusal s).node.conflict = none := by
      unfold refusal
      rw [conflict]
      rfl
    show placeNotice (refusal s) = refusal s
    unfold placeNotice
    rw [unmarked]
  · exact placeNotice_unplaced (s := refusal s) station

/-- The blocks of an accepted ASSIGN before LISTEN is entered. -/
def assigned (p : Position) (s : State) : State :=
  s.setNode { s.node with position := some p, conflict := none, image := none }

theorem acceptAssign_eq (p : Position) (s : State) :
    acceptAssign p s = listenEntered (restartedWith (s.bus.slots.answer.restart (lineKind s = some .answer)) (assigned p s)) := by
  have blocks : restartBlocks (assigned p s) =
      restartedWith (s.bus.slots.answer.restart (lineKind s = some .answer)) (assigned p s) := by
    rw [restartedWith_eq, restartBlocks_eq]
    rfl
  have other : roleOf (restartBlocks (assigned p s)) ≠ .winch := by
    rw [restartBlocks_eq]
    exact roleOf_of_no_image rfl
  unfold acceptAssign
  rw [← blocks]
  exact enterListen_of_other other

theorem execAssign_none (none : headOfKind .assign s = none) : execAssign s = .next s := by
  unfold execAssign
  rw [none]

theorem execAssign_misfit {f : RxFrame} (head : headOfKind .assign s = some f) (misfit : f.payload.length ≠ 4) :
    execAssign s = .next (popQueue s) := by
  unfold execAssign
  rw [head]
  dsimp only
  rw [readAssign_eq, if_pos misfit]

theorem execAssign_fits {f : RxFrame} (head : headOfKind .assign s = some f) (fits : ¬ f.payload.length ≠ 4) :
    execAssign s = .next (takeAssign
      (BitVec.ofNat 24 (be24 (f.payload.getD 0 0#8) (f.payload.getD 1 0#8) (f.payload.getD 2 0#8)))
      (f.payload.getD 3 0#8).toNat (popQueue s)) := by
  unfold execAssign
  rw [head]
  dsimp only
  rw [readAssign_eq, if_neg fits]

/-- An ASSIGN is for a node in CONFLICT with its serial number. -/
def AssignsHere (a b c : Byte) (s : State) : Prop := s.node.state = .conflict ∧ be24 a b c = s.node.serial.toNat

theorem not_assignsHere_iff {a b c : Byte} : ¬ AssignsHere a b c s ↔
    s.node.state ≠ .conflict ∨ be24 a b c ≠ s.node.serial.toNat := not_and_or

section
variable {a b c : Byte} {position : Nat}

theorem takeAssign_ignored (elsewhere : ¬ AssignsHere a b c s) : takeAssign (BitVec.ofNat 24 (be24 a b c)) position s =
    s.setNode { s.node with assignIgnored := bumpTo 255 s.node.assignIgnored } :=
  if_neg fun mine => elsewhere ⟨mine.1, (ofNat_be24_eq_iff ..).1 mine.2⟩

theorem takeAssign_refused (here : AssignsHere a b c s)
    (refused : position = 0 ∨ 8 < position ∨ freshAt s.peers position = true) :
    takeAssign (BitVec.ofNat 24 (be24 a b c)) position s = refuseAssign s := by
  unfold takeAssign
  rw [if_pos ⟨here.1, (ofNat_be24_eq_iff ..).2 here.2⟩]
  cases position_ : posOfCode position with
  | none => rfl
  | some p =>
    have held : freshAt s.peers position = true := by
      have inRange := mt (posOfCode_eq_none_iff position).2 (by rw [position_]; nofun)
      exact (refused.resolve_left fun e => inRange (.inl e)).resolve_left fun e => inRange (.inr e)
    exact if_pos held

theorem takeAssign_accepted (here : AssignsHere a b c s) (code : posOfCode position = some p)
    (free : freshAt s.peers position = false) :
    takeAssign (BitVec.ofNat 24 (be24 a b c)) position s = acceptAssign p s := by
  unfold takeAssign
  rw [if_pos ⟨here.1, (ofNat_be24_eq_iff ..).2 here.2⟩, code]
  exact if_neg (by rw [free]; nofun)

end

/-- The frame is taken, and the ASSIGN in it refused. -/
theorem refuseAssign_popQueue (s : State) : refuseAssign (popQueue s) =
    { s with
      bus := { s.bus with
        queue := s.bus.queue.tail
        slots := { s.bus.slots with report := (refuseAssign (popQueue s)).bus.slots.report } }
      node := { s.node with
        conflict := s.node.conflict.map fun c => { c with refused := true }
        noticeTimer := (refuseAssign (popQueue s)).node.noticeTimer } } ∧
    match s.node.conflict, stationOf s with
    | some c, some n => (refuseAssign (popQueue s)).node.noticeTimer = some 0 ∧
      (refuseAssign (popQueue s)).bus.slots.report = (s.bus.slots.report.place (decide (lineKind s = some .report))
        { sender := n, payload := noticePayload s.node.serial true c.strapCode }).1
    | _, _ => (refuseAssign (popQueue s)).node.noticeTimer = s.node.noticeTimer ∧
      (refuseAssign (popQueue s)).bus.slots.report = s.bus.slots.report := by
  split
  next c n conflict station =>
    rw [refuseAssign_noticed (s := popQueue s) conflict station]
    exact ⟨rfl, rfl, rfl⟩
  next silent =>
    have unnoticed : s.node.conflict = none ∨ stationOf s = none := by
      by_contra both
      obtain ⟨conflict, station⟩ := not_or.1 both
      obtain ⟨c, conflict⟩ := Option.ne_none_iff_exists'.1 conflict
      obtain ⟨n, station⟩ := Option.ne_none_iff_exists'.1 station
      exact silent c n conflict station
    rw [refuseAssign_unnoticed (s := popQueue s) unnoticed]
    exact ⟨rfl, rfl, rfl⟩

/-- Settles O28: the cases of R33, one by one. -/
theorem assignGivesANewPosition : Obligations.AssignGivesANewPosition := by
  intro s
  cases head : headOfKind .assign s with
  | none => exact ⟨s, execAssign_none head, fun _ => rfl, nofun⟩
  | some f =>
    by_cases misfit : f.payload.length ≠ 4
    · refine ⟨_, execAssign_misfit head misfit, nofun, fun g hg => ?_⟩
      cases hg
      rw [if_pos misfit]
      rfl
    refine ⟨_, execAssign_fits head misfit, nofun, fun g hg => ?_⟩
    cases hg
    rw [if_neg misfit]
    by_cases here : ¬ AssignsHere (f.payload.getD 0 0#8) (f.payload.getD 1 0#8) (f.payload.getD 2 0#8) s
    · rw [if_pos (not_assignsHere_iff.1 here), takeAssign_ignored (s := popQueue s) here, bumpTo_eq_min]
      rfl
    rw [if_neg (mt not_assignsHere_iff.2 here), ← freshAt_eq]
    rw [not_not] at here
    by_cases refused : (f.payload.getD 3 0#8).toNat = 0 ∨ 8 < (f.payload.getD 3 0#8).toNat ∨
        freshAt s.peers (f.payload.getD 3 0#8).toNat = true
    · rw [if_pos refused, takeAssign_refused (s := popQueue s) here refused]
      exact refuseAssign_popQueue s
    · rw [if_neg refused]
      obtain ⟨low, high, free⟩ := not_or.1 refused |>.imp_right not_or.1
      obtain ⟨p, code⟩ := Option.ne_none_iff_exists'.1 (mt (posOfCode_eq_none_iff _).1 (not_or.2 ⟨low, high⟩))
      rw [takeAssign_accepted (s := popQueue s) here code (Bool.not_eq_true _ ▸ free), acceptAssign_eq]
      have restarted := restartedAt_listenEntered ((popQueue s).bus.slots.answer.restart (lineKind (popQueue s) = some .answer))
        (s := assigned p (popQueue s)) rfl
      refine ⟨rfl, log_listenEntered _ _, rfl, congrArg some (posCode_of_posOfCode code), fun q hq => ?_⟩
      cases hq
      exact restarted

end Sys2Proof.NodeControl
end

section
/-! SUPPORT. What RESTART keeps of the drum and of the WINCH slot, and how a query is taken and answered. -/

namespace Sys2Proof.NodeControl

open Sys2Proof Sys2Proof.Machine Sys2Proof.Safety

variable {s t u : State} {p : Position}

/-! ## The winch log (R162, R163) -/

theorem isRunningDrum_iff (d : DrumState) : isRunningDrum d = true ↔ d = .haulIn ∨ d = .payOut := by
  cases d <;> decide

/-- An operation that runs is logged, any other discarded. -/
theorem closeOperation_log (reason : EndReason) (s : State) : (closeOperation reason s).winch.log =
    if s.winch.drum = .haulIn ∨ s.winch.drum = .payOut then endedLog s.winch.op reason s else s.winch.log := by
  rcases closeOperation_cases reason s with ⟨none, same⟩ | ⟨r, some, closed⟩
  · rw [same, none]
    exact (ite_self _).symm
  · rw [closed, some]
    simp only [State.setWinch_winch, isRunningDrum_iff]
    rfl

/-- The winch unit at a change of the drum state (R157, R159, R165). -/
def drumChanged (d : DrumState) (w : Winch) : Winch :=
  { w with
    drum := d, stallWindow := none, cap := if d = .haulIn then w.cap else none
    integrator := if isRunningDrum d then 0 else w.integrator, engageTimer := none }

/-- A change of the drum state may place a WINCH frame, and raises its event (R43, R164). -/
theorem setDrum_cases (d : DrumState) (s : State) : setDrum d s = s ∨
    setDrum d s = raiseEvent .drumChange (placeWinch (s.setWinch (drumChanged d s.winch))) ∨
    setDrum d s = raiseEvent .drumChange (s.setWinch (drumChanged d s.winch)) := by
  by_cases same : s.winch.drum = d
  · exact .inl (if_pos same)
  · have changed : setDrum d s = raiseEvent .drumChange
        (if isServing s.node.state && roleOf s = .winch then placeWinch (s.setWinch (drumChanged d s.winch))
          else s.setWinch (drumChanged d s.winch)) := if_neg same
    rw [changed]
    split
    · exact .inr (.inl rfl)
    · exact .inr (.inr rfl)

theorem placeWinch_log (s : State) : (placeWinch s).winch.log = s.winch.log := by
  unfold placeWinch
  rw [placeFrame_frame]
  rfl

/-- The log stands. -/
theorem setDrum_log (d : DrumState) (s : State) : (setDrum d s).winch.log = s.winch.log := by
  rcases setDrum_cases d s with same | placed | unplaced
  · rw [same]
  · rw [placed, raiseEvent_frame]
    exact placeWinch_log _
  · rw [unplaced, raiseEvent_frame]
    rfl

theorem releaseDrum_log (reason : EndReason) (s : State) : (releaseDrum reason s).winch.log =
    if roleOf s = .winch ∧ (s.winch.drum = .haulIn ∨ s.winch.drum = .payOut) then endedLog s.winch.op reason s
    else s.winch.log := by
  by_cases winch : roleOf s = .winch
  · have released : (releaseDrum reason s).winch.log = (closeOperation reason s).winch.log := by
      unfold releaseDrum
      rw [if_pos winch]
      dsimp only
      split
      · rfl
      · exact setDrum_log _ _
    rw [released, closeOperation_log]
    simp only [winch, true_and]
  · rw [releaseDrum_of_other reason winch, if_neg fun h => winch h.1]

theorem goSafe_log (reason : EndReason) (s : State) : (goSafe reason s).winch.log =
    if roleOf s = .winch ∧ (s.winch.drum = .haulIn ∨ s.winch.drum = .payOut) then endedLog s.winch.op reason s
    else s.winch.log := releaseDrum_log reason (endTripWaitB (clearSteer s))

/-! ## The WINCH slot at RESTART (R22) -/

/-- The slot holds the frame that is on the line. -/
def LineHeld (k : TxKind) (s : State) : Prop := (s.bus.slots.get k).held = none → lineKind s ≠ some k

/-- RESTART drops what a placement adds to a slot. -/
theorem slotRestarted_place {onLine : Bool} {f : TxFrame} {sl : Slot} (held : sl.held = none → onLine = false) :
    slotRestarted onLine (sl.place onLine f).1 = slotRestarted onLine sl := by
  cases onLine with
  | false => rfl
  | true =>
    unfold Slot.place
    cases holds : sl.held with
    | none => cases held holds
    | some h => simp [slotRestarted, holds]

theorem slotRestarted_placeWinch (bus : t.bus = s.bus) (held : LineHeld .winch s) :
    slotRestarted (lineKind s = some .winch) (placeWinch t).bus.slots.winch =
      slotRestarted (lineKind s = some .winch) s.bus.slots.winch := by
  have line : lineKind t = lineKind s := congrArg (fun b : Bus => b.tx.attempt.map Attempt.kind) bus
  show slotRestarted _ (placeFrame .winch (winchPayload t) t).bus.slots.winch = _
  cases station : stationOf t with
  | none => rw [placeFrame_unplaced _ _ _ station, bus]
  | some n =>
    rw [placeFrame_slot _ _ _ n station, line, bus]
    exact slotRestarted_place fun empty => decide_eq_false (held empty)

theorem slotRestarted_setDrum (d : DrumState) (bus : t.bus = s.bus) (held : LineHeld .winch s) :
    slotRestarted (lineKind s = some .winch) (setDrum d t).bus.slots.winch =
      slotRestarted (lineKind s = some .winch) s.bus.slots.winch := by
  rcases setDrum_cases d t with same | placed | unplaced
  · rw [same, bus]
  · rw [placed, raiseEvent_frame]
    exact slotRestarted_placeWinch (t := t.setWinch (drumChanged d t.winch)) bus held
  · rw [unplaced, raiseEvent_frame]
    exact congrArg (fun b : Bus => slotRestarted _ b.slots.winch) bus

theorem closeOperation_bus (reason : EndReason) (s : State) : (closeOperation reason s).bus = s.bus := by
  rcases closeOperation_cases reason s with ⟨_, same⟩ | ⟨_, _, same⟩ <;> rw [same]
  rfl

theorem slotRestarted_goSafe (reason : EndReason) (held : LineHeld .winch s) :
    slotRestarted (lineKind s = some .winch) (goSafe reason s).bus.slots.winch =
      slotRestarted (lineKind s = some .winch) s.bus.slots.winch := by
  have closed : (offBridgeB (closeOperation reason (endTripWaitB (clearSteer s)))).bus = s.bus :=
    closeOperation_bus reason (endTripWaitB (clearSteer s))
  show slotRestarted _ (releaseDrum reason (endTripWaitB (clearSteer s))).bus.slots.winch = _
  unfold releaseDrum
  split
  · dsimp only
    split
    · rw [closed]
    · exact slotRestarted_setDrum .braked closed held
  · rfl

/-! ## Queries (R55) -/

/-- An ANSWER placed by station `n` (R13, R55). -/
theorem placeFrame_answer {n : Nat} (payload : List Byte) (station : stationOf s = some n) :
    placeFrame .answer payload s = answered n payload s := by
  unfold placeFrame answered
  rw [station]
  dsimp only [Slots.get]
  cases replaced : (s.bus.slots.answer.place (decide (lineKind s = some .answer)) { sender := n, payload }).2 with
  | false => rfl
  | true => 
    simp only [decide_true, Bool.and_true, if_true, ← bumpTo_eq_min]
    rfl

theorem placeAnswer_eq {n asker code : Nat} {result : AnswerResult} {data : List Byte} (station : stationOf s = some n) :
    placeAnswer asker code result data s = answered n (answerPayload asker code result data) s :=
  placeFrame_answer _ station

theorem queryOfCode_eq_some_iff (n : Nat) (code : QueryCode) : queryOfCode n = some code ↔ n = queryCodeNat code := by
  constructor
  · unfold queryOfCode
    split <;> intro h <;> cases h <;> rfl
  · rintro rfl
    cases code <;> rfl

theorem isSome_queryOfCode_iff (n : Nat) : (queryOfCode n).isSome = true ↔ 1 ≤ n ∧ n ≤ 8 := by
  match n with
  | 0 => simp [queryOfCode]
  | 1 | 2 | 3 | 4 | 5 | 6 | 7 | 8 => simp [queryOfCode]
  | k + 9 => simp [queryOfCode]

/-- A QUERY that is for this node finds it with a station number, outside CONFLICT and STRAP (R55). -/
theorem station_of_headQuery {q : QueryRead} (h : headQuery s = some (q, true)) : ∃ n, stationOf s = some n := by
  unfold headQuery at h
  split at h
  · cases h
  · split at h
    · cases h
    next target _ _ _ =>
      have mine := congrArg Prod.snd (Option.some.inj h)
      simp only [Bool.and_eq_true, decide_eq_true_eq] at mine
      exact ⟨target, mine.1.1⟩

section
variable {code : QueryCode} {act : QueryRead → State → State} {q : QueryRead} {mine : Bool}

theorem onQuery_none (none : headQuery s = none) : onQuery code act s = .next s := by
  unfold onQuery
  rw [none]

theorem onQuery_other (head : headQuery s = some (q, mine)) (other : q.code ≠ queryCodeNat code) :
    onQuery code act s = .next s := by
  unfold onQuery
  rw [head]
  exact if_neg (mt (queryOfCode_eq_some_iff ..).1 other)

theorem onQuery_taken (head : headQuery s = some (q, mine)) (same : q.code = queryCodeNat code) :
    onQuery code act s = done (if mine then act q (popQueue s) else popQueue s) := by
  unfold onQuery
  rw [head]
  exact if_pos ((queryOfCode_eq_some_iff ..).2 same)

end

end Sys2Proof.NodeControl
end

section
/-! SUPPORT. An accepted RESTART, and a QUERY of an unknown code (R38, R55). -/

namespace Sys2Proof.NodeControl

open Sys2Proof Sys2Proof.Machine Sys2Proof.Safety

variable {s t u : State} {p : Position}

/-! ## RESTART (R38) -/

/-- What RESTART finds once the outputs are safe. -/
def restartsFrom (s : State) : State := goSafe .fault (abandonCheck s)

theorem restartsFrom_changes (s : State) : SameButDrum (safeOutputs (abandonCheck s)) (restartsFrom s) :=
  goSafe_changes .fault (abandonCheck s)

/-- Into a restarted slot nothing is lost. -/
theorem place_restart (onLine : Bool) (f : TxFrame) (sl : Slot) : ((sl.restart onLine).place onLine f).2 = false := by
  cases onLine with
  | false => rfl
  | true =>
    unfold Slot.place Slot.restart
    cases holds : sl.held with
    | none => simp
    | some h => simp

theorem answered_restartBlocks (n : Nat) (payload : List Byte) (s : State) : answered n payload (restartBlocks s) =
    restartedWith ((s.bus.slots.answer.restart (lineKind s = some .answer)).place (lineKind s = some .answer)
      { sender := n, payload }).1 s := by
  have slot : (restartBlocks s).bus.slots.answer = s.bus.slots.answer.restart (lineKind s = some .answer) :=
    TrailBus.restartBlocks_slot .answer s
  have line : lineKind (restartBlocks s) = lineKind s := by
    rw [restartBlocks_eq]
    rfl
  unfold answered restartedWith
  rw [slot, line]
  dsimp only
  rw [place_restart]
  rfl

theorem restartNode_eq {q : QueryRead} {n : Nat} (station : stationOf s = some n) : restartNode q s =
    listenEntered (restartedWith ((s.bus.slots.answer.restart (lineKind s = some .answer)).place (lineKind s = some .answer)
      { sender := n, payload := answerPayload q.asker q.code .ok [] }).1 (restartsFrom s)) := by
  have changes := restartsFrom_changes s
  have stationStays : stationOf (restartBlocks (restartsFrom s)) = some n := by
    rw [restartBlocks_eq, changes]
    exact station
  have line : lineKind (restartsFrom s) = lineKind s := by
    rw [changes]
    rfl
  have slot : (restartsFrom s).bus.slots.answer = s.bus.slots.answer := by
    rw [changes]
    rfl
  have answers : placeAnswer q.asker q.code .ok [] (restartBlocks (restartsFrom s)) =
      restartedWith ((s.bus.slots.answer.restart (lineKind s = some .answer)).place (lineKind s = some .answer)
        { sender := n, payload := answerPayload q.asker q.code .ok [] }).1 (restartsFrom s) := by
    rw [placeAnswer_eq stationStays, answered_restartBlocks, line, slot]
  have other : roleOf (placeAnswer q.asker q.code .ok [] (restartBlocks (restartsFrom s))) ≠ .winch := by
    rw [answers, restartedWith_eq]
    exact roleOf_of_no_image rfl
  rw [← answers]
  exact enterListen_of_other other

/-- Every block is as Table 2-7 gives, from the state the RESTART found. -/
theorem restartedAt_restartsFrom (a : Slot) (held : LineHeld .winch s) (position : s.node.position = some p) :
    RestartedAt p s (listenEntered (restartedWith a (restartsFrom s))) := by
  have changes := restartsFrom_changes s
  have restarted : RestartedAt p (restartsFrom s) (listenEntered (restartedWith a (restartsFrom s))) :=
    restartedAt_listenEntered a (by rw [changes]; exact position)
  have winch : slotRestarted (lineKind s = some .winch) (restartsFrom s).bus.slots.winch =
      slotRestarted (lineKind s = some .winch) s.bus.slots.winch := slotRestarted_goSafe .fault (s := abandonCheck s) held
  have line : lineKind (restartsFrom s) = lineKind s := by
    rw [changes]
    rfl
  generalize listenEntered (restartedWith a (restartsFrom s)) = t at restarted ⊢
  obtain ⟨node, bus, peers, intake, power, steer, drive, drum, lights, monitor, outputs, usedA, usedB, pins, now, pending⟩ :=
    restarted
  rw [line, winch] at bus
  rw [changes] at node bus drum monitor pins now pending
  exact ⟨node, bus, peers, intake, power, steer, drive, drum, lights, monitor, outputs, usedA, usedB, pins, now, pending⟩

theorem log_restartsFrom (s : State) : (restartsFrom s).winch.log =
    if roleOf s = .winch ∧ (s.winch.drum = .haulIn ∨ s.winch.drum = .payOut) then endedLog s.winch.op .fault s
    else s.winch.log := goSafe_log .fault (abandonCheck s)

/-- The step that restarts raises no event. -/
theorem settle_listenEntered (s : State) : settle (listenEntered s) = listenEntered s := settle_quiet _ rfl

theorem execRestart_none (none : headQuery s = none) : execRestart s = .next s := onQuery_none none

theorem execRestart_other {q : QueryRead} {mine : Bool} (head : headQuery s = some (q, mine)) (other : q.code ≠ 7) :
    execRestart s = .next s := onQuery_other head other

theorem execRestart_elsewhere {q : QueryRead} (head : headQuery s = some (q, false)) (code : q.code = 7) :
    execRestart s = .next (settle (popQueue s)) := onQuery_taken head code

/-- RESTART, for this node outside CUTOFF. -/
theorem execRestart_accepted {q : QueryRead} {n : Nat} (head : headQuery s = some (q, true)) (code : q.code = 7)
    (station : stationOf s = some n) (cutoff : s.node.state ≠ .cutoff) : execRestart s = .next (listenEntered (restartedWith
      ((s.bus.slots.answer.restart (lineKind s = some .answer)).place (lineKind s = some .answer)
        { sender := n, payload := [byteOf q.asker, 7#8, 0#8] }).1 (restartsFrom (popQueue s)))) := by
  have restarts := restartNode_eq (s := popQueue s) (q := q) station
  have payload : answerPayload q.asker q.code .ok [] = [byteOf q.asker, 7#8, 0#8] := by rw [code]; rfl
  unfold execRestart
  rw [onQuery_taken (code := .restart) head code, if_pos rfl, if_neg (show ¬ (popQueue s).node.state = .cutoff from cutoff), restarts, payload]
  exact congrArg Host.Outcome.next (settle_listenEntered _)

theorem execRestart_refused {q : QueryRead} {n : Nat} (head : headQuery s = some (q, true)) (code : q.code = 7)
    (station : stationOf s = some n) (cutoff : s.node.state = .cutoff) :
    execRestart s = .next (settle (answered n [byteOf q.asker, 7#8, 1#8] (popQueue s))) := by
  have payload : answerPayload q.asker q.code .refusedState [] = [byteOf q.asker, 7#8, 1#8] := by rw [code]; rfl
  unfold execRestart
  rw [onQuery_taken (code := .restart) head code, if_pos rfl, if_pos (show (popQueue s).node.state = .cutoff from cutoff),
    placeAnswer_eq (s := popQueue s) station, payload]
  rfl

/-! ## A QUERY of an unknown code (R55) -/

section
variable {f : RxFrame} {q : QueryRead} {mine : Bool}

theorem execQueryUnknownCode_none (none : headOfKind .query s = none) : execQueryUnknownCode s = .next s := by
  unfold execQueryUnknownCode
  rw [none]

theorem execQueryUnknownCode_misfit (head : headOfKind .query s = some f) (misfit : headQuery s = none) :
    execQueryUnknownCode s = .next (popQueue s) := by
  unfold execQueryUnknownCode
  rw [head, misfit]

theorem execQueryUnknownCode_known (head : headOfKind .query s = some f) (query : headQuery s = some (q, mine))
    (known : 1 ≤ q.code ∧ q.code ≤ 8) : execQueryUnknownCode s = .next s := by
  unfold execQueryUnknownCode
  rw [head, query]
  exact if_pos ((isSome_queryOfCode_iff _).2 known)

theorem execQueryUnknownCode_unknown (head : headOfKind .query s = some f) (query : headQuery s = some (q, mine))
    (unknown : ¬ (1 ≤ q.code ∧ q.code ≤ 8)) : execQueryUnknownCode s =
      .next (if mine then placeAnswer q.asker q.code .unknown [] (popQueue s) else popQueue s) := by
  unfold execQueryUnknownCode
  rw [head, query]
  exact if_neg (mt (isSome_queryOfCode_iff _).1 unknown)

end

end Sys2Proof.NodeControl
end

section
/-! SUPPORT. The CHECK sequence from its start to the first step that takes time, or through to SAFE (R28, R186). -/

namespace Sys2Proof.NodeControl

open Sys2Proof Sys2Proof.Machine Sys2Proof.Safety

variable {s t u : State} {st : CheckStep}

/-! ## Reaching a step's place -/

/-- `t` is `s` but for what reaching a step's place may change: the findings of step 8, the sensors with the fault list, and
what a change of the thermal class does (R190, R191, R198). -/
def SameButReach (s t : State) : Prop :=
  t = { s with
    node := { s.node with eventDue := t.node.eventDue }
    bus := { s.bus with slots := { s.bus.slots with winch := t.bus.slots.winch } }
    power := { s.power with allowance := t.power.allowance, grants := t.power.grants }
    bridgeA := t.bridgeA
    bridgeB := t.bridgeB
    steer := { s.steer with loop := t.steer.loop }
    drive := { s.drive with ramped := t.drive.ramped, integrator := t.drive.integrator }
    winch := { s.winch with
      drum := t.winch.drum, stallWindow := t.winch.stallWindow, cap := t.winch.cap, integrator := t.winch.integrator
      engageTimer := t.winch.engageTimer, winchTimer := t.winch.winchTimer, op := t.winch.op, log := t.winch.log }
    monitor := { s.monitor with
      absent := t.monitor.absent, newRatings := t.monitor.newRatings, ratings := t.monitor.ratings
      ts1 := t.monitor.ts1, die := t.monitor.die, faults := t.monitor.faults } }

theorem sameButReach_trans (h : SameButReach s t) (k : SameButReach t u) : SameButReach s u := by
  unfold SameButReach at h k ⊢
  rw [h] at k
  exact k

theorem sameButReach_of_drum (h : SameButDrum s t) : SameButReach s t := by
  unfold SameButReach
  unfold SameButDrum at h
  rw [h]

theorem sameButEntry_of_reach (h : SameButReach s t) : SameButEntry s t := by
  unfold SameButEntry
  unfold SameButReach at h
  rw [h]

/-- The bridges as the sequence has them between its steps, with no trip wait (R186). -/
structure Rested (s : State) : Prop where
  activeA : s.bridgeA.active = ⟨safeModeA s, 0⟩
  nextA : s.bridgeA.next = ⟨safeModeA s, 0⟩
  activeB : s.bridgeB.active = ⟨.off, 0⟩
  nextB : s.bridgeB.next = ⟨.off, 0⟩
  ended : s.drive.tripWait = none

theorem Rested.of_same (h : Rested s) (hold : safeModeA t = safeModeA s) (bridgeA : t.bridgeA = s.bridgeA := by rfl)
    (bridgeB : t.bridgeB = s.bridgeB := by rfl) (tripWait : t.drive.tripWait = s.drive.tripWait := by rfl) : Rested t := by
  obtain ⟨activeA, nextA, activeB, nextB, ended⟩ := h
  exact ⟨by rw [bridgeA, hold, activeA], by rw [bridgeA, hold, nextA], by rw [bridgeB, activeB], by rw [bridgeB, nextB],
    tripWait.trans ended⟩

/-- Reaching a step's place leaves the bridges at rest, and an allowance of 0 as it is. -/
structure Reaches (s t : State) : Prop where
  frame : SameButReach s t
  rest : Rested s → Rested t
  power : s.power.allowance = 0 → t.power = s.power

theorem Reaches.refl (s : State) : Reaches s s := ⟨rfl, id, fun _ => rfl⟩

theorem Reaches.trans (h : Reaches s t) (k : Reaches t u) : Reaches s u where
  frame := sameButReach_trans h.frame k.frame
  rest := k.rest ∘ h.rest
  power zero := (k.power (by rw [h.power zero]; exact zero)).trans (h.power zero)

theorem Reaches.ite {c : Prop} [Decidable c] (h : Reaches s t) (k : Reaches s u) : Reaches s (if c then t else u) := by
  split
  · exact h
  · exact k

/-- A change aside of the bridges and the power figures. -/
theorem Reaches.aside (h : Reaches s t) (frame : SameButReach t u) (bridgeA : u.bridgeA = t.bridgeA := by rfl)
    (bridgeB : u.bridgeB = t.bridgeB := by rfl) (power : u.power = t.power := by rfl) : Reaches s u := by
  refine h.trans ⟨frame, fun rest => rest.of_same ?_ bridgeA bridgeB ?_, fun _ => power⟩
  · refine safeModeA_of_same ?_ ?_ ?_ ?_ ?_ <;> rw [frame]
  · rw [frame]

theorem Reaches.drum (h : Reaches s t) (same : SameButDrum t u) : Reaches s u := by
  refine h.aside (sameButReach_of_drum same) same.bridgeA same.bridgeB ?_
  rw [same]

theorem reaches_setMonitor {x : Monitor} (h : Reaches s t) (frame : x = { t.monitor with
      absent := x.absent, newRatings := x.newRatings, ratings := x.ratings, ts1 := x.ts1, die := x.die
      faults := x.faults } := by rfl) : Reaches s (t.setMonitor x) :=
  h.aside (congrArg t.setMonitor frame)

theorem reaches_addFault {kind : FaultKind} {output : FaultOutput} {detail : Int} (h : Reaches s t) :
    Reaches s (addFault kind output detail t) := (reaches_setMonitor h).drum (sameButDrum_raiseEvent _ _)

theorem reaches_setSensor {x : Sensor} {v : SensorState} (h : Reaches s t) : Reaches s (setSensor x v t) := by
  cases x <;> exact reaches_setMonitor h

theorem reaches_checkSensor {x : Sensor} {reading : Int} (h : Reaches s t) : Reaches s (checkSensor x reading t) := by
  unfold checkSensor
  exact .ite (.ite (reaches_setSensor h) (reaches_addFault (reaches_setSensor h))) (reaches_setSensor h)

theorem reaches_lowerAllowance (h : Reaches s t) : Reaches s (lowerAllowance t) := by
  refine h.trans ⟨?_, fun rest => ?_, fun zero => ?_⟩
  · unfold lowerAllowance
    split <;> rfl
  · unfold lowerAllowance
    split
    · exact rest.of_same (safeModeA_of_same)
    · exact rest
  · unfold lowerAllowance
    rw [if_neg (by rw [zero]; exact Nat.not_lt_zero _)]

theorem reaches_offBridgeB (h : Reaches s t) : Reaches s (offBridgeB t) :=
  h.trans ⟨rfl, fun rest => ⟨rest.activeA, rest.nextA, rfl, rfl, rest.ended⟩, fun _ => rfl⟩

theorem reaches_shutBridgeA (h : Reaches s t) : Reaches s (shutBridgeA t) := by
  unfold shutBridgeA
  exact .ite (h.trans ⟨rfl, fun rest => rest.of_same safeModeA_of_same, fun _ => rfl⟩)
    (h.trans ⟨rfl, fun rest => ⟨rfl, rfl, rest.activeB, rest.nextB, rest.ended⟩, fun _ => rfl⟩)

theorem reaches_thermalEffects {before : ThermalClass} (h : Reaches s t) : Reaches s (thermalEffects before t) := by
  have lowered : Reaches s (if before = .normal ∧ thermalClass t ≠ .normal then lowerAllowance t else t) :=
    .ite (reaches_lowerAllowance h) h
  unfold thermalEffects
  refine .ite ?_ lowered
  have shut := reaches_shutBridgeA (reaches_addFault (kind := .overtemp)
    (output := .sensor (if t.monitor.ts1.thermal = .shutdown then .ts1 else .die))
    (detail := (sensorOf (if t.monitor.ts1.thermal = .shutdown then .ts1 else .die) t.monitor).reading)
    (reaches_offBridgeB lowered))
  have closed := (shut.drum (sameButDrum_closeOperation .fault _)).drum (sameButDrum_setDrum .braked _)
  dsimp only
  split
  · exact closed
  · exact closed
  · exact closed
  · exact shut.drum (sameButDrum_setDrum .braked _)
  all_goals exact shut

theorem reaches_reachStep (h : Reaches s t) : Reaches s (reachStep st t) := by
  unfold reachStep
  split
  · exact reaches_setMonitor h
  · exact reaches_thermalEffects (reaches_checkSensor (reaches_checkSensor (reaches_setMonitor h)))
  · exact h

/-! ## The entry to SAFE -/

/-- SAFE as entered, the drum apart. -/
def safeBase (s : State) : State :=
  { s with
    node := { s.node with state := .safe, staging := [], silenceTimer := none, defaultTimer := none, armWait := false }
    bridgeA := s.bridgeA.force (safeModeA (moveTo .safe s)) 0
    bridgeB := s.bridgeB.force .off 0
    steer := { s.steer with loop := false, lossCount := 0 }
    drive := { s.drive with tripWait := none, ramped := 0, integrator := 0 }
    monitor := { s.monitor with
      position := none, waiting := false, newRatings := Quad.all none, tripWait := none
      record := { s.monitor.record with inProgress := false } } }

/-- The node in SAFE with bridge B OFF, before bridge A is held. -/
def safeOff (s : State) : State := endTripWaitB (offBridgeB (clearLoss (abandonCheck (moveTo .safe s))))

theorem offBridgeB_safeOff (s : State) : offBridgeB (safeOff s) = safeOff s :=
  congrArg (safeOff s).setBridgeB (force_force s.bridgeB .off 0)

theorem holdBridgeA_safeOff (s : State) : holdBridgeA (safeOff s) = safeBase s := by
  dsimp only [safeOff, holdBridgeA, forceBridgeA, zeroDrive, endTripWaitB, clearLoss, abandonCheck, offBridgeB, forceBridgeB,
    State.setBridgeA, State.setBridgeB, State.setDrive, State.setMonitor, State.setSteer]
  rfl

theorem enterSafe_changes (s : State) : SameButDrum (safeBase s) (enterSafe s) := by
  have held : SameButDrum (safeBase s) (holdBridgeA (releaseDrum .fault (safeOff s))) := by
    rw [← holdBridgeA_safeOff]
    by_cases winch : roleOf (safeOff s) = .winch
    · have released := releaseDrum_of_winch .fault winch
      rw [offBridgeB_safeOff] at released
      exact released.holdBridgeA
    · rw [releaseDrum_of_other .fault winch]
      exact .refl _
  exact .ite (held.trans (sameButDrum_placeWinch _)) held

/-! ## The first step that takes time -/

theorem takesNoTime_eq (s : State) (st : CheckStep) : takesNoTime s st =
    (decide (st = .temperature) || skipsStep s st || (decide (st = .supply) && supplyPasses s.pins.vpack)) := by
  cases st <;> simp [takesNoTime, skipsStep, supplyPasses]

theorem takesNoTime_of_same (role : roleOf t = roleOf s) (pins : t.pins = s.pins)
    (withdrawn : t.monitor.withdrawn = s.monitor.withdrawn) : takesNoTime t = takesNoTime s := by
  funext st
  cases st <;> simp only [takesNoTime, role, pins, withdrawn]

theorem checkRestA_of_ended (ended : s.drive.tripWait = none) : checkRestA s = ⟨safeModeA s, 0⟩ := by
  simp [checkRestA, ended]

/-- The sequence stands between two steps: the node in CHECK with the LISTEN timers ended, the bridges at rest. -/
structure Stands (s : State) : Prop extends Rested s where
  node : s.node = { s.node with
    state := .check, staging := [], silenceTimer := none, defaultTimer := none, armWait := false }
  power : s.power.allowance = 0
  open_ : s.monitor.record.inProgress = true
  idle : s.monitor.position = none

/-- From where it stood in `s` the sequence has come to a step in `u`, or has run through to SAFE. -/
structure Arrives (steps : List CheckStep) (s u : State) : Prop where
  entry : SameButEntry s u
  sequence : SequenceAt steps u
  going : u.monitor.position ≠ none → u.node.state = .check
  node : u.node = { s.node with state := u.node.state, eventDue := u.node.eventDue }
  record : u.monitor.record = { s.monitor.record with inProgress := decide (u.node.state = .check) }
  withdrawn : u.monitor.withdrawn = s.monitor.withdrawn
  intake : u.intake = s.intake
  power : u.power = s.power
  report : u.bus.slots.report = s.bus.slots.report

theorem Stands.reach (h : Stands s) (k : Reaches s t) : Stands t := by
  have frame := k.frame
  refine ⟨k.rest h.toRested, ?_, ?_, ?_, ?_⟩
  · have node := h.node
    rw [frame, node]
  · rw [k.power h.power, h.power]
  · rw [frame]
    exact h.open_
  · rw [frame]
    exact h.idle

theorem Arrives.reach {steps : List CheckStep} (h : Stands s) (k : Reaches s t) (a : Arrives steps t u) : Arrives steps s u := by
  have frame := k.frame
  refine ⟨sameButEntry_trans (sameButEntry_of_reach frame) a.entry, a.sequence, a.going, ?_, ?_, ?_, ?_, ?_, ?_⟩
  · rw [a.node, frame]
  · rw [a.record, frame]
  · rw [a.withdrawn, frame]
  · rw [a.intake, frame]
  · rw [a.power, k.power h.power]
  · rw [a.report, frame]

/-- A step that takes no time is passed. -/
theorem Arrives.pass {steps : List CheckStep} (a : Arrives steps s u) (none : takesNoTime s st = true) :
    Arrives (st :: steps) s u := by
  have same : takesNoTime u = takesNoTime s := takesNoTime_of_same
    (by rw [a.entry]; exact roleOf_of_same) (by rw [a.entry]) a.withdrawn
  obtain ⟨position, rest⟩ := a.sequence
  refine { a with sequence := ⟨?_, rest⟩ }
  rw [position, List.find?_cons_of_neg (by rw [same, none]; nofun)]

/-- The outputs of a step that waits (R196). -/
theorem stepOutputs_wait (rest : Rested s) : StepOutputs (s.setMonitor { s.monitor with
    position := some st, waiting := true, stepTimer := 0 }) := by
  have restA : checkRestA (s.setMonitor { s.monitor with position := some st, waiting := true, stepTimer := 0 }) =
      ⟨safeModeA s, 0⟩ := (checkRestA_of_ended rest.ended).trans (congrArg (Setting.mk · 0) safeModeA_of_same)
  refine ⟨?_, ?_, rest.nextA.trans rest.activeA.symm, rest.nextB.trans rest.activeB.symm⟩
  · cases st <;> exact rest.activeA.trans restA.symm
  · cases st <;> exact rest.activeB

/-- The outputs of a step that begins (R188, R189, R192). -/
theorem stepOutputs_begin (rest : Rested s) : StepOutputs (beginStep st s) := by
  have restA : checkRestA (beginStep st s) = ⟨safeModeA s, 0⟩ := by
    refine (checkRestA_of_ended ?_).trans (congrArg (Setting.mk · 0) ?_)
    · cases st <;> exact rest.ended
    · cases st <;> exact safeModeA_of_same
  have onA := rest.activeA.trans restA.symm
  have nextA := rest.nextA.trans rest.activeA.symm
  have nextB := rest.nextB.trans rest.activeB.symm
  cases st
  case pullDownA | pullUpA | loadA => exact ⟨rfl, rest.activeB, rfl, nextB⟩
  case pullDownB | pullUpB | loadB | sweepLeft | sweepRight | sweepReturn => exact ⟨onA, rfl, nextA, rfl⟩
  all_goals exact ⟨onA, rest.activeB, nextA, nextB⟩

theorem Stands.check (h : Stands s) : s.node.state = .check := by
  rw [h.node]

/-- A step that takes time, come to. -/
theorem Stands.arrives {rest : List CheckStep} (h : Stands s) (takes : takesNoTime s st = false) (entry : SameButEntry s u)
    (outputs : StepOutputs u) (waiting : u.monitor.waiting = (isDriving st && decide (thermalClass s = .shutdown)))
    (pulse : u.monitor.waiting = false → u.monitor.pulseVpack = u.pins.vpack)
    (position : u.monitor.position = some st := by rfl) (timer : u.monitor.stepTimer = 0 := by rfl)
    (thermal : thermalClass u = thermalClass s := by rfl) (node : u.node = s.node := by rfl)
    (record : u.monitor.record = s.monitor.record := by rfl)
    (withdrawn : u.monitor.withdrawn = s.monitor.withdrawn := by rfl) (intake : u.intake = s.intake := by rfl)
    (power : u.power = s.power := by rfl) (report : u.bus.slots.report = s.bus.slots.report := by rfl) :
    Arrives (st :: rest) s u := by
  have check : u.node.state = .check := node ▸ h.check
  have same : takesNoTime u = takesNoTime s := takesNoTime_of_same
    (by rw [entry]; exact roleOf_of_same) (by rw [entry]) withdrawn
  refine ⟨entry, ⟨?_, outputs, ?_, ?_, fun _ => ⟨timer, pulse⟩⟩, fun _ => check, ?_, ?_, withdrawn, intake, power, report⟩
  · rw [position, same, List.find?_cons_of_pos (by rw [takes]; rfl)]
  · rw [waiting, position, thermal]
    rfl
  · rw [position]
    nofun
  · rw [node]
  · rw [record, decide_eq_true check, ← h.open_]

/-- A step that drives a bridge waits under SHUTDOWN (R196). -/
theorem arrives_wait {rest : List CheckStep} (h : Stands s) (takes : takesNoTime s st = false) (drives : isDriving st = true)
    (hot : thermalClass s = .shutdown) : Arrives (st :: rest) s
      (s.setMonitor { s.monitor with position := some st, waiting := true, stepTimer := 0 }) :=
  h.arrives takes rfl (stepOutputs_wait h.toRested) (by rw [drives, decide_eq_true hot]; rfl) nofun

theorem arrives_begin {rest : List CheckStep} (h : Stands s) (takes : takesNoTime s st = false)
    (free : (isDriving st && decide (thermalClass s = .shutdown)) = false) : Arrives (st :: rest) s (beginStep st s) := by
  have outputs := stepOutputs_begin (st := st) h.toRested
  cases st <;> exact h.arrives takes rfl outputs free.symm fun _ => rfl

/-- SAFE holds the bridges as its role asks (R27). -/
theorem stepOutputs_enterSafe (s : State) : StepOutputs (enterSafe s) := by
  have changes := enterSafe_changes s
  have hold : safeModeA (enterSafe s) = safeModeA (moveTo .safe s) := by
    rw [changes]
    exact safeModeA_of_same
  unfold StepOutputs
  rw [hold, changes]
  exact ⟨rfl, rfl, rfl, rfl⟩

/-- With no step left the node enters SAFE (R186). -/
theorem arrives_enterSafe (h : Stands s) : Arrives [] s (enterSafe s) := by
  have changes := enterSafe_changes s
  have outputs := stepOutputs_enterSafe s
  have position : (enterSafe s).monitor.position = none := by
    rw [changes]
    rfl
  refine ⟨sameButEntry_trans (t := safeBase s) rfl (sameButEntry_of_drum changes),
    ⟨position, outputs, ?waiting, fun _ => ?safe, fun going => absurd position going⟩,
    fun going => absurd position going, ?node, ?record, ?withdrawn, ?intake, ?power, ?report⟩
  case node =>
    rw [changes, h.node]
    rfl
  case waiting =>
    rw [position, changes]
    rfl
  all_goals
    rw [changes]
  case safe => exact ⟨rfl, rfl⟩
  all_goals rfl

theorem arrives_advance (steps : List CheckStep) (h : Stands s) : Arrives steps s (advance steps s) := by
  induction steps generalizing s with
  | nil => exact arrives_enterSafe h
  | cons st rest ih =>
    have reach : Reaches s (reachStep st s) := reaches_reachStep (.refl s)
    have stands := h.reach reach
    refine .reach h reach ?_
    unfold advance
    have time := takesNoTime_eq (reachStep st s) st
    dsimp only
    split
    next passed => exact (ih stands).pass (by rw [time, passed]; rfl)
    next unpassed =>
      split
      next passes => exact (ih stands).pass (by rw [time, passes, Bool.or_true])
      next =>
        have takes : takesNoTime (reachStep st s) st = false := by
          rw [time]
          simp_all
        split
        next waits =>
          simp only [Bool.and_eq_true, decide_eq_true_eq] at waits
          exact arrives_wait stands takes waits.1 waits.2
        next begins =>
          exact arrives_begin stands takes (Bool.eq_false_iff.2 begins)

/-! ## CHECK (R28) -/

/-- What follows going safe at the entry to CHECK. -/
def checkFrom (s : State) : State :=
  (clearIntake s).setMonitor { s.monitor with record := CheckRecord.untested true, waiting := false, position := none }

/-- CHECK as entered, the drum apart. -/
def checkBase (s : State) : State := checkFrom (safeOutputs (moveTo .check s))

theorem checkEntered_changes (s : State) : SameButDrum (checkBase s) (checkEntered s) :=
  congrArg checkFrom (goSafe_changes .fault (moveTo .check s))

theorem stands_checkEntered (s : State) : Stands (checkEntered s) := by
  have changes := checkEntered_changes s
  have hold : safeModeA (checkEntered s) = safeModeA (moveTo .check s) := by
    rw [changes]
    exact safeModeA_of_same
  refine ⟨⟨?_, ?_, ?_, ?_, ?_⟩, ?_, ?_, ?_, ?_⟩
  case refine_1 | refine_2 =>
    rw [hold, changes]
    rfl
  all_goals
    rw [changes]
    rfl

theorem arrives_enterCheck (s : State) : Arrives allSteps (checkEntered s) (enterCheck s) :=
  arrives_advance allSteps (stands_checkEntered s)

end Sys2Proof.NodeControl
end

section
/-! SUPPORT and THEOREM. A step that enters CHECK, and the commands of the LISTEN timers. -/

namespace Sys2Proof.NodeControl

open Sys2Proof Sys2Proof.Machine Sys2Proof.Safety

variable {s t u : State}

/-! ## A step that enters CHECK -/

theorem sameButEntry_of_report (h : SameButReport s t) : SameButEntry s t := by
  unfold SameButEntry
  unfold SameButReport at h
  rw [h]

theorem inCheckOrThrough_of_report (h : SameButReport u t) (k : InCheckOrThrough u) : InCheckOrThrough t := by
  rw [h]
  exact k

/-- What a step that enters CHECK leaves, whether the sequence stands in it or has run through to SAFE. -/
structure Checks (s t : State) : Prop where
  entry : SameButEntry s t
  arrived : InCheckOrThrough t
  silenceTimer : t.node.silenceTimer = none
  defaultTimer : t.node.defaultTimer = none
  staging : t.node.staging = []
  armWait : t.node.armWait = false
  intake : t.intake = clearedIntake s.intake.record
  power : t.power = { s.power with allowance := 0, grants := Consumers.zero }
  record : t.monitor.record = CheckRecord.untested (decide (t.node.state = .check))
  withdrawn : t.monitor.withdrawn = s.monitor.withdrawn

theorem checks_enterCheck (s : State) : Checks s (enterCheck s) := by
  have changes := checkEntered_changes s
  have arrives := arrives_enterCheck s
  have node := arrives.node
  have record := arrives.record
  rw [changes] at node record
  refine ⟨?entry, ⟨arrives.sequence, fun going => ⟨arrives.going going, ?_⟩⟩, ?_, ?_, ?_, ?_, ?_, ?_, ?_, ?_⟩
  case entry =>
    exact sameButEntry_trans (sameButEntry_trans (t := checkBase s) rfl (sameButEntry_of_drum changes)) arrives.entry
  · rw [record]
    exact decide_eq_true (arrives.going going)
  · rw [node]
    rfl
  · rw [node]
    rfl
  · rw [node]
    rfl
  · rw [node]
    rfl
  · rw [arrives.intake, changes]
    rfl
  · rw [arrives.power, changes]
    rfl
  · exact record
  · rw [arrives.withdrawn, changes]
    rfl

theorem checks_settle (s : State) : Checks s (settle (enterCheck s)) := by
  have checks := checks_enterCheck s
  have report := sameButReport_settle (enterCheck s)
  refine ⟨sameButEntry_trans checks.entry (sameButEntry_of_report report), inCheckOrThrough_of_report report checks.arrived,
    ?_, ?_, ?_, ?_, ?_, ?_, ?_, ?_⟩
  all_goals rw [report]
  · exact checks.silenceTimer
  · exact checks.defaultTimer
  · exact checks.staging
  · exact checks.armWait
  · exact checks.intake
  · exact checks.power
  · exact checks.record
  · exact checks.withdrawn

/-- With VPACK outside its window the sequence stands at the supply test (R187). -/
theorem Checks.supply (h : Checks s t) (fails : supplyPasses s.pins.vpack = false) :
    t.monitor.position = some .supply ∧ t.node.state = .check := by
  obtain ⟨⟨position, _⟩, going⟩ := h.arrived
  have pins : t.pins = s.pins := by rw [h.entry]
  have takes : takesNoTime t .supply = false := by
    rw [takesNoTime_eq, pins, fails]
    rfl
  have supply : t.monitor.position = some .supply := by
    rw [position]
    exact List.find?_cons_of_pos (by rw [takes]; rfl)
  exact ⟨supply, (going (by rw [supply]; nofun)).1⟩

end Sys2Proof.NodeControl
end

section
/-! THEOREM. The control queries (R38, R60). -/

namespace Sys2Proof.NodeControl

open Sys2Proof Sys2Proof.Machine Sys2Proof.Safety

variable {s t u : State} {q : QueryRead} {n : Nat}

/-! ## RECHECK (R60) -/

theorem execRecheck_none (none : headQuery s = none) : execRecheck s = .next s := onQuery_none none

theorem execRecheck_other {mine : Bool} (head : headQuery s = some (q, mine)) (other : q.code ≠ 8) :
    execRecheck s = .next s := onQuery_other head other

theorem execRecheck_elsewhere (head : headQuery s = some (q, false)) (code : q.code = 8) :
    execRecheck s = .next (settle (popQueue s)) := onQuery_taken head code

theorem execRecheck_accepted (head : headQuery s = some (q, true)) (code : q.code = 8) (station : stationOf s = some n)
    (safe : s.node.state = .safe) :
    execRecheck s = .next (settle (enterCheck (answered n [byteOf q.asker, 8#8, 0#8] (popQueue s)))) := by
  have payload : answerPayload q.asker q.code .ok [] = [byteOf q.asker, 8#8, 0#8] := by rw [code]; rfl
  unfold execRecheck
  rw [onQuery_taken (code := .recheck) head code, if_pos rfl, if_pos (show (popQueue s).node.state = .safe from safe),
    placeAnswer_eq (s := popQueue s) station, payload]
  rfl

theorem execRecheck_refused (head : headQuery s = some (q, true)) (code : q.code = 8) (station : stationOf s = some n)
    (other : s.node.state ≠ .safe) :
    execRecheck s = .next (settle (answered n [byteOf q.asker, 8#8, 1#8] (popQueue s))) := by
  have payload : answerPayload q.asker q.code .refusedState [] = [byteOf q.asker, 8#8, 1#8] := by rw [code]; rfl
  unfold execRecheck
  rw [onQuery_taken (code := .recheck) head code, if_pos rfl, if_neg (show ¬ (popQueue s).node.state = .safe from other),
    placeAnswer_eq (s := popQueue s) station, payload]
  rfl

/-- All that a step may change that takes a QUERY, answers it and enters a node state. -/
def SameButQuery (s t : State) : Prop :=
  SameButEntry { s with bus := { s.bus with
    queue := t.bus.queue, slots := { s.bus.slots with answer := t.bus.slots.answer }
    counters := { s.bus.counters with answerDrops := t.bus.counters.answerDrops } } } t

theorem sameButQuery_answered {payload : List Byte} (h : SameButEntry (answered n payload (popQueue s)) t) :
    SameButQuery s t := by
  unfold SameButQuery SameButEntry
  unfold SameButEntry at h
  rw [h]
  rfl

theorem sameButQuery_popQueue (h : SameButEntry (popQueue s) t) : SameButQuery s t := by
  unfold SameButQuery SameButEntry
  unfold SameButEntry at h
  rw [h]
  rfl

/-- Settles O36: each query by the cases of its head, its code and the node state. -/
theorem controlQueriesActByState : Obligations.ControlQueriesActByState := by
  refine ⟨fun s => ?restart, fun s => ?recheck, fun s => ?unknown⟩
  case restart =>
    cases head : headQuery s with
    | none => exact ⟨s, execRestart_none head, rfl⟩
    | some x =>
      obtain ⟨q, mine⟩ := x
      by_cases other : q.code ≠ 7
      · exact ⟨s, execRestart_other head other, by dsimp only; rw [if_pos other]⟩
      have code := not_not.1 other
      cases mine with
      | false => exact ⟨_, execRestart_elsewhere head code, by dsimp only; rw [if_neg other]⟩
      | true =>
        obtain ⟨n, station⟩ := station_of_headQuery head
        by_cases cutoff : s.node.state = .cutoff
        · refine ⟨_, execRestart_refused head code station cutoff, ?_⟩
          dsimp only
          rw [if_neg other, station]
          dsimp only
          rw [if_pos cutoff]
        · refine ⟨_, execRestart_accepted head code station cutoff, ?_⟩
          dsimp only
          rw [if_neg other, station]
          dsimp only
          rw [if_neg cutoff]
          refine ⟨?conflict, fun held p hp => restartedAt_restartsFrom (s := popQueue s) _ held hp,
            (log_listenEntered _ _).trans (log_restartsFrom (popQueue s)), rfl⟩
          rw [restartedWith_eq, restartsFrom_changes]
          rfl
  case recheck =>
    cases head : headQuery s with
    | none => exact ⟨s, execRecheck_none head, rfl, rfl⟩
    | some x =>
      obtain ⟨q, mine⟩ := x
      by_cases other : q.code ≠ 8
      · exact ⟨s, execRecheck_other head other, rfl, by dsimp only; rw [if_pos other]⟩
      have code := not_not.1 other
      cases mine with
      | false =>
        exact ⟨_, execRecheck_elsewhere head code, sameButQuery_popQueue (sameButEntry_of_report (sameButReport_settle _)),
          by dsimp only; rw [if_neg other]⟩
      | true =>
        obtain ⟨n, station⟩ := station_of_headQuery head
        by_cases safe : s.node.state = .safe
        · have checks := checks_settle (answered n [byteOf q.asker, 8#8, 0#8] (popQueue s))
          refine ⟨_, execRecheck_accepted head code station safe, sameButQuery_answered checks.entry, ?_⟩
          dsimp only
          rw [if_neg other, station]
          dsimp only
          rw [if_pos safe]
          have entry := checks.entry
          exact ⟨checks.arrived, checks.armWait, checks.intake, by rw [entry], by rw [entry], checks.record, checks.withdrawn,
            by rw [entry]; rfl⟩
        · refine ⟨_, execRecheck_refused head code station safe,
            sameButQuery_answered (sameButEntry_of_report (sameButReport_settle _)), ?_⟩
          dsimp only
          rw [if_neg other, station]
          dsimp only
          rw [if_neg safe]
  case unknown =>
    cases head : headOfKind .query s with
    | none => exact ⟨s, execQueryUnknownCode_none head, rfl⟩
    | some f =>
      cases query : headQuery s with
      | none => exact ⟨_, execQueryUnknownCode_misfit head query, rfl⟩
      | some x =>
        obtain ⟨q, mine⟩ := x
        by_cases known : 1 ≤ q.code ∧ q.code ≤ 8
        · exact ⟨s, execQueryUnknownCode_known head query known, by dsimp only; rw [if_pos known]⟩
        · refine ⟨_, execQueryUnknownCode_unknown head query known, ?_⟩
          dsimp only
          rw [if_neg known]
          cases mine with
          | false => rfl
          | true =>
            obtain ⟨n, station⟩ := station_of_headQuery query
            rw [station]
            exact placeAnswer_eq (s := popQueue s) station

end Sys2Proof.NodeControl
end

section
/-! SUPPORT and THEOREM. The LISTEN timers (R26, R37). -/

namespace Sys2Proof.NodeControl

open Sys2Proof Sys2Proof.Machine Sys2Proof.Safety

variable {s t u : State}

/-- The results are in progress as long as the node is in CHECK (R184). -/
theorem Checks.inProgress (h : Checks s t) : t.monitor.record.inProgress = true ↔ t.node.state = .check := by
  rw [h.record]
  exact decide_eq_true_iff

/-! ## An event in the step of a REPORT (R43) -/

/-- Within 5 ms of a REPORT an event is held, and nothing else changes. -/
def SameButHeld (s t : State) : Prop :=
  t = s.setNode { s.node with eventDue := t.node.eventDue, heldEvent := t.node.heldEvent }

theorem sameButHeld_settle (just : s.node.sinceReport = some 0) : SameButHeld s (settle s) := by
  cases due : s.node.eventDue with
  | false =>
    rw [settle_quiet s due]
    rfl
  | true =>
    rw [settle_held s 0 due just (by decide)]
    rfl

/-! ## The node and the REPORT slot at the entry to CHECK -/

theorem enterCheck_node (s : State) : (enterCheck s).node = { s.node with
    state := (enterCheck s).node.state, staging := [], silenceTimer := none, defaultTimer := none, armWait := false
    eventDue := (enterCheck s).node.eventDue } := by
  have node := (arrives_enterCheck s).node
  rw [checkEntered_changes s] at node
  exact node

theorem enterCheck_report (s : State) : (enterCheck s).bus.slots.report = s.bus.slots.report := by
  rw [(arrives_enterCheck s).report, checkEntered_changes s]
  rfl

/-! ## The silence timer (R26, R42) -/

/-- The first REPORT, placed when the silence timer ends. -/
def firstReport (s : State) : State := placeReport (s.setNode { s.node with silenceTimer := none })

theorem firstReport_slot {n : Nat} (station : stationOf s = some n) : (firstReport s).bus.slots.report =
    (s.bus.slots.report.place (decide (lineKind s = some .report)) { sender := n, payload := reportPayload s }).1 := by
  unfold firstReport placeReport
  rw [placeFrame_report (s := s.setNode { s.node with silenceTimer := none }) _ station]
  rfl

theorem firstReport_changes (s : State) :
    SameButReport { s with node := { s.node with silenceTimer := none } } (firstReport s) := sameButReport_placeReport _

theorem execSilenceTimerExpiry_due (due : s.node.state = .listen ∧ s.node.silenceTimer ≠ none) : execSilenceTimerExpiry s =
    .next (settle (if s.node.image = none then firstReport s else enterCheck (firstReport s))) := by
  have image : (firstReport s).node.image = s.node.image := by
    rw [firstReport_changes s]
  have some_ : s.node.silenceTimer.isSome = true := Option.isSome_iff_ne_none.2 due.2
  unfold execSilenceTimerExpiry
  rw [if_pos ⟨due.1, some_⟩]
  show done (if (firstReport s).node.image.isSome then enterCheck (firstReport s) else firstReport s) = _
  rw [image]
  cases s.node.image <;> rfl

theorem execSilenceTimerExpiry_idle (idle : ¬ (s.node.state = .listen ∧ s.node.silenceTimer ≠ none)) :
    execSilenceTimerExpiry s = .next s :=
  if_neg fun due => idle ⟨due.1, Option.isSome_iff_ne_none.1 due.2⟩

/-- What the end of the silence timer leaves of the node and of the REPORT slot, in LISTEN and in CHECK. -/
structure FirstReported (s t : State) : Prop where
  silenceTimer : t.node.silenceTimer = none
  reportTimer : t.node.reportTimer = some 0
  sinceReport : t.node.sinceReport = some 0
  sequence : t.node.sequence = (s.node.sequence + 1) % 16
  image : t.node.image = s.node.image
  slot : t.bus.slots.report = (firstReport s).bus.slots.report

theorem firstReported_firstReport (s : State) : FirstReported s (firstReport s) := by
  refine ⟨?_, rfl, rfl, ?_, ?_, rfl⟩ <;> unfold firstReport placeReport <;> rw [placeFrame_frame] <;> rfl

theorem firstReported_enterCheck (s : State) : FirstReported s (enterCheck (firstReport s)) := by
  obtain ⟨silenceTimer, reportTimer, sinceReport, sequence, image, _⟩ := firstReported_firstReport s
  refine ⟨?_, ?_, ?_, ?_, ?_, enterCheck_report _⟩
  all_goals rw [enterCheck_node]
  · exact reportTimer
  · exact sinceReport
  · exact sequence
  · exact image

theorem FirstReported.settle (h : FirstReported s t) : FirstReported s (settle t) := by
  obtain ⟨silenceTimer, reportTimer, sinceReport, sequence, image, slot⟩ := h
  have held := sameButHeld_settle sinceReport
  refine ⟨?_, ?_, ?_, ?_, ?_, ?_⟩
  all_goals rw [held]
  · exact silenceTimer
  · exact reportTimer
  · exact sinceReport
  · exact sequence
  · exact image
  · exact slot

/-! ## An image comes into force (R24, R35, R128) -/

/-- The pack monitor role under an image (R24). -/
def monitorsPack (i : Image) (s : State) : Bool :=
  stationOf s = some i.vehicle.packMonitorPosition && tapsWired i.vehicle.cellCount s.pins.cells

/-- The wheel figures under an image, of a corner alone (R128). -/
def figuresUnder (i : Image) (s : State) : Option WheelFigures :=
  if roleOf s = .corner then some (wheelFigures i.drive) else none

/-- The state with an image in force, before the winch position takes its drum up. -/
def forced (img : ImageInForce) (s : State) : State :=
  clearMarks { s with
    node := { s.node with image := some img, staging := [], packMonitor := monitorsPack img.fields s }
    drive := { s.drive with figures := figuresUnder img.fields s }
    power := { Power.reset with running := true }
    lights := lampsBy img.fields.lights s.node.position s.lights }

/-- The winch position with its limit filters and ticks started afresh, bridge A held (R166, log 34). -/
def winchStarted (s : State) : State :=
  holdBridgeA (s.setWinch { s.winch with
    filter0 := LimitFilter.reset, filter1 := LimitFilter.reset, filterTimer := 0, timer := 0 })

/-- Whether the node is a corner is a matter of its position alone (R24). -/
theorem roleOf_corner_iff : roleOf s = .corner ↔ s.node.position.any isCorner = true := by
  unfold roleOf
  cases s.node.position with
  | none => simp
  | some p =>
    cases corner : isCorner p with
    | true => simp [corner]
    | false =>
      simp only [Bool.false_eq_true, if_false, Option.any_some, corner, iff_false]
      split
      · nofun
      · split <;> nofun

theorem figuresUnder_of_same (i : Image) (position : t.node.position = s.node.position) :
    figuresUnder i t = figuresUnder i s := by
  unfold figuresUnder
  simp only [roleOf_corner_iff, position]

theorem applyImage_eq (img : ImageInForce) (s : State) : applyImage img s =
    if roleOf (forced img s) = .winch then winchStarted (forced img s) else forced img s := by
  have figures := figuresUnder_of_same img.fields (s := s) (t := s.setNode { s.node with
    image := some img, staging := [], packMonitor := monitorsPack img.fields s }) rfl
  unfold forced
  rw [← figures]
  unfold applyImage
  dsimp only
  rw [setFunctions_eq]
  rfl

/-- `t` is `s` but for what an image that comes into force may change. -/
def SameButImage (s t : State) : Prop :=
  t = { s with
    node := { s.node with image := t.node.image, staging := t.node.staging, packMonitor := t.node.packMonitor }
    power := t.power
    bridgeA := t.bridgeA
    bridgeB := t.bridgeB
    steer := { s.steer with limited := t.steer.limited }
    drive := { s.drive with
      figures := t.drive.figures, limited := t.drive.limited, ramped := t.drive.ramped, integrator := t.drive.integrator
      tripWait := t.drive.tripWait }
    winch := { s.winch with
      filter0 := t.winch.filter0, filter1 := t.winch.filter1, filterTimer := t.winch.filterTimer, timer := t.winch.timer
      drumLimited := t.winch.drumLimited, solenoidLimited := t.winch.solenoidLimited }
    lights := { s.lights with channels := t.lights.channels } }

theorem sameButImage_applyImage (img : ImageInForce) (s : State) : SameButImage s (applyImage img s) := by
  rw [applyImage_eq]
  split <;> rfl

/-- What an image that came into force in `s` leaves. -/
structure Forced (img : ImageInForce) (s t : State) : Prop where
  image : t.node.image = some img
  packMonitor : t.node.packMonitor = monitorsPack img.fields s
  figures : t.drive.figures = figuresUnder img.fields s
  driveLimited : t.drive.limited = false
  steerLimited : t.steer.limited = false
  staging : t.node.staging = []
  power : t.power = { State.reset.power with running := true }

theorem forced_applyImage (img : ImageInForce) (s : State) : Forced img s (applyImage img s) := by
  rw [applyImage_eq]
  split <;> exact ⟨rfl, rfl, rfl, rfl, rfl, rfl, rfl⟩

variable {img : ImageInForce}

/-- An entry to CHECK keeps the image in force. -/
theorem Forced.checks (h : Forced img s t) (checks : Checks t u) : Forced img s u := by
  have entry := checks.entry
  refine ⟨?_, ?_, ?_, ?_, ?_, checks.staging, ?_⟩
  · rw [entry]
    exact h.image
  · rw [entry]
    exact h.packMonitor
  · rw [entry]
    exact h.figures
  · rw [entry]
    exact h.driveLimited
  · rw [entry]
    exact h.steerLimited
  · rw [checks.power, h.power]
    rfl

theorem Forced.fields (h : Forced img s t) : fieldsOf t = img.fields := by
  unfold fieldsOf
  rw [h.image]

/-- The pack monitor role as its station and its taps give it (R24). -/
theorem Forced.monitors (h : Forced img s t) : t.node.packMonitor =
    (decide (stationOf s = some (fieldsOf t).vehicle.packMonitorPosition) &&
      (s.pins.cells.toList.take (fieldsOf t).vehicle.cellCount).all fun v => decide (2000 ≤ v ∧ v ≤ 4500)) := by
  rw [h.packMonitor, h.fields]
  simp only [monitorsPack, tapsWired, Bool.decide_and]

/-! ## The default timer (R26, R37) -/

/-- The default image brought in. -/
def defaulted (s : State) : State :=
  (applyImage defaultImage s).setNode { (applyImage defaultImage s).node with defaultConfig := true }

theorem execDefaultTimerExpiry_due (due : s.node.state = .listen ∧ s.node.defaultTimer ≠ none) (image : s.node.image = none) :
    execDefaultTimerExpiry s = .next (settle (enterCheck (defaulted s))) := by
  unfold execDefaultTimerExpiry
  rw [if_pos ⟨due.1, Option.isSome_iff_ne_none.2 due.2⟩, image]
  rfl

theorem execDefaultTimerExpiry_late (due : s.node.state = .listen ∧ s.node.defaultTimer ≠ none) (image : s.node.image ≠ none) :
    execDefaultTimerExpiry s = .next (s.setNode { s.node with defaultTimer := none }) := by
  unfold execDefaultTimerExpiry
  rw [if_pos ⟨due.1, Option.isSome_iff_ne_none.2 due.2⟩, if_pos (Option.isSome_iff_ne_none.2 image)]

theorem execDefaultTimerExpiry_idle (idle : ¬ (s.node.state = .listen ∧ s.node.defaultTimer ≠ none)) :
    execDefaultTimerExpiry s = .next s :=
  if_neg fun due => idle ⟨due.1, Option.isSome_iff_ne_none.1 due.2⟩

/-- All that the default timer's end may change. -/
def SameButDefault (s t : State) : Prop :=
  SameButEntry { s with
    node := { s.node with
      image := t.node.image, defaultConfig := t.node.defaultConfig, packMonitor := t.node.packMonitor }
    power := t.power, drive := { s.drive with figures := t.drive.figures, limited := t.drive.limited }
    steer := { s.steer with limited := t.steer.limited }
    winch := { s.winch with
      filter0 := t.winch.filter0, filter1 := t.winch.filter1, filterTimer := t.winch.filterTimer
      timer := t.winch.timer, drumLimited := t.winch.drumLimited, solenoidLimited := t.winch.solenoidLimited } } t

theorem sameButDefault_of_entry (entry : SameButEntry (defaulted s) t) : SameButDefault s t := by
  have applied := sameButImage_applyImage defaultImage s
  unfold defaulted at entry
  unfold SameButDefault SameButEntry
  rw [entry, applied]
  rfl

theorem defaulted_keeps (s : State) : (defaulted s).intake = s.intake ∧ (defaulted s).pins = s.pins := by
  unfold defaulted
  rw [sameButImage_applyImage defaultImage s]
  exact ⟨rfl, rfl⟩

/-- The wheel figures of the default image (R37, R128). -/
theorem figuresUnder_default (s : State) : figuresUnder defaultImage.fields s =
    if roleOf s = .corner then some { circumference := 346, vMaxCps := 1561 } else none := rfl

/-- Settles O25: each timer by whether it runs in LISTEN and whether an image is in force. -/
theorem listenTimersLeadToCheck : Obligations.ListenTimersLeadToCheck := by
  refine ⟨fun s => ?silence, fun s => ?default⟩
  case silence =>
    by_cases due : s.node.state = .listen ∧ s.node.silenceTimer ≠ none
    · refine ⟨_, execSilenceTimerExpiry_due due, ?_⟩
      have first : SameButEntry s (firstReport s) :=
        sameButEntry_trans (t := { s with node := { s.node with silenceTimer := none } }) rfl
          (sameButEntry_of_report (firstReport_changes s))
      rw [if_pos due]
      by_cases image : s.node.image = none
      · have reported := (firstReported_firstReport s).settle
        have settled := sameButReport_settle (firstReport s)
        rw [if_pos image, if_pos image]
        exact ⟨sameButEntry_trans first (sameButEntry_of_report settled), reported.silenceTimer, reported.reportTimer,
          reported.sinceReport, reported.sequence, reported.image,
          fun n station => reported.slot.trans (firstReport_slot station), sameButReport_trans (firstReport_changes s) settled⟩
      · have reported := (firstReported_enterCheck s).settle
        have checks := checks_settle (firstReport s)
        have intake : (firstReport s).intake = s.intake := by rw [firstReport_changes s]
        have pins : (firstReport s).pins = s.pins := by rw [firstReport_changes s]
        rw [if_neg image, if_neg image]
        refine ⟨sameButEntry_trans first checks.entry, reported.silenceTimer, reported.reportTimer, reported.sinceReport,
          reported.sequence, reported.image, fun n station => reported.slot.trans (firstReport_slot station), checks.arrived,
          checks.defaultTimer, checks.staging, ?cleared, checks.inProgress, fun fails => checks.supply ?vpack⟩
        case cleared => rw [checks.intake, intake]
        case vpack => rw [pins, fails]
    · exact ⟨s, execSilenceTimerExpiry_idle due, rfl, by rw [if_neg due]⟩
  case default =>
    by_cases due : s.node.state = .listen ∧ s.node.defaultTimer ≠ none
    · by_cases image : s.node.image = none
      · have checks := checks_settle (defaulted s)
        have forced : Forced defaultImage s (defaulted s) := by
          obtain ⟨image, packMonitor, figures, driveLimited, steerLimited, staging, power⟩ := forced_applyImage defaultImage s
          exact ⟨image, packMonitor, figures, driveLimited, steerLimited, staging, power⟩
        have taken := forced.checks checks
        refine ⟨_, execDefaultTimerExpiry_due due image, sameButDefault_of_entry checks.entry, ?_⟩
        rw [if_pos due, if_pos image]
        refine ⟨taken.image, ?defaultConfig, taken.staging, checks.defaultTimer, taken.power,
          taken.figures.trans (figuresUnder_default s), taken.monitors, checks.arrived, ?intake, fun fails => checks.supply ?vpack⟩
        case defaultConfig =>
          rw [checks.entry]
          rfl
        case intake => rw [checks.intake, (defaulted_keeps s).1]
        case vpack => rw [(defaulted_keeps s).2, fails]
      · refine ⟨_, execDefaultTimerExpiry_late due image, rfl, ?_⟩
        rw [if_pos due, if_neg image]
        rfl
    · exact ⟨s, execDefaultTimerExpiry_idle due, rfl, by rw [if_neg due]⟩

end Sys2Proof.NodeControl
end

section
/-! SUPPORT and THEOREM. CONFIG: the segments, the staging image and the image that comes into force (R34, R35). -/

namespace Sys2Proof.NodeControl

open Sys2Proof Sys2Proof.Machine Sys2Proof.Safety

variable {s t u : State} {payload : List Byte}

/-! ## The intake of a segment (R34) -/

/-- The segment held under its index. -/
def segmentHeld (payload : List Byte) (s : State) : State :=
  s.setNode { s.node with staging := stagedWith payload s.node.staging }

theorem segmentFits_cons (i : Byte) (bytes : List Byte) :
    segmentFits (i :: bytes) = true ↔ i.toNat ≤ 7 ∧ bytes.length = segmentLength i.toNat := by
  simp only [segmentFits, segmentLength, Bool.and_eq_true, decide_eq_true_eq]

theorem takeConfig_ignored (ignored : s.node.state ≠ .listen ∨ s.node.image ≠ none ∨ segmentFits payload = false) :
    takeConfig payload s = countCfgIgnored s := by
  unfold takeConfig
  by_cases listening : s.node.state = .listen ∧ s.node.image = none
  · rw [if_pos listening]
    have unfit : segmentFits payload = false :=
      (ignored.resolve_left (not_not_intro listening.1)).resolve_left (not_not_intro listening.2)
    cases payload with
    | nil => rfl
    | cons i bytes =>
      exact if_neg fun fits => Bool.eq_false_iff.1 unfit ((segmentFits_cons i bytes).2 fits)
  · exact if_neg listening

theorem takeConfig_held (taken : ¬ (s.node.state ≠ .listen ∨ s.node.image ≠ none ∨ segmentFits payload = false)) :
    takeConfig payload s = if stagingComplete (stagedWith payload s.node.staging) then completeImage (segmentHeld payload s)
      else segmentHeld payload s := by
  obtain ⟨listening, image, fits⟩ : s.node.state = .listen ∧ s.node.image = none ∧ segmentFits payload = true := by
    simpa only [not_or, not_not, Bool.not_eq_false] using taken
  unfold takeConfig
  rw [if_pos ⟨listening, image⟩]
  cases payload with
  | nil => cases fits
  | cons i bytes => exact if_pos ((segmentFits_cons i bytes).1 fits)

/-! ## The staging image complete (R35) -/

/-- The image of the 63 bytes staged with a segment. -/
def stagedImage (payload : List Byte) (s : State) : ImageInForce :=
  receivedImage (stagedBytes (stagedWith payload s.node.staging))

/-- The image staged with a segment, brought into force. -/
def received (payload : List Byte) (s : State) : State := applyImage (stagedImage payload s) (segmentHeld payload s)

theorem completeImage_rejected (rejected : imageAccepted (stagedBytes s.node.staging) = false) :
    completeImage s = countCfgIgnored (s.setNode { s.node with staging := [] }) := by
  unfold completeImage
  dsimp only
  rw [rejected]
  rfl

theorem completeImage_received (accepted : imageAccepted (stagedBytes (stagedWith payload s.node.staging)) = true) :
    completeImage (segmentHeld payload s) =
      if s.node.silenceTimer = none then enterCheck (received payload s) else received payload s := by
  have timer : (received payload s).node.silenceTimer = s.node.silenceTimer := by
    unfold received
    rw [sameButImage_applyImage]
    rfl
  unfold completeImage
  dsimp only
  refine (if_pos accepted).trans ?_
  show (if (received payload s).node.silenceTimer.isNone then _ else received payload s) = _
  rw [timer]
  cases s.node.silenceTimer <;> rfl

/-! ## The outcomes of a segment that is taken -/

section Taken

variable (taken : ¬ (s.node.state ≠ .listen ∨ s.node.image ≠ none ∨ segmentFits payload = false))
include taken

theorem takeConfig_incomplete (incomplete : stagingComplete (stagedWith payload s.node.staging) = false) :
    takeConfig payload s = segmentHeld payload s :=
  (takeConfig_held taken).trans (if_neg (ne_true_of_eq_false incomplete))

variable (complete : stagingComplete (stagedWith payload s.node.staging) = true)
include complete

theorem takeConfig_rejected (rejected : imageAccepted (stagedBytes (stagedWith payload s.node.staging)) = false) :
    takeConfig payload s = countCfgIgnored (s.setNode { s.node with staging := [] }) :=
  ((takeConfig_held taken).trans (if_pos complete)).trans (completeImage_rejected rejected)

theorem takeConfig_accepted (accepted : imageAccepted (stagedBytes (stagedWith payload s.node.staging)) = true) :
    takeConfig payload s = if s.node.silenceTimer = none then enterCheck (received payload s) else received payload s :=
  ((takeConfig_held taken).trans (if_pos complete)).trans (completeImage_received accepted)

end Taken

/-! ## What the image leaves of the bridges and the winch (R97, R166) -/

/-- The bridges and the winch as an image in force leaves them. -/
structure ImageBlocks (s t : State) : Prop where
  state : t.node.state = s.node.state
  silenceTimer : t.node.silenceTimer = s.node.silenceTimer
  bridgeB : t.bridgeB = { s.bridgeB with used := drivesMode s.bridgeB.active.mode }
  winch : roleOf t = .winch → t.bridgeA.active = ⟨safeModeA t, 0⟩ ∧ t.bridgeA.next = ⟨safeModeA t, 0⟩ ∧
    t.winch = { s.winch with
      filter0 := LimitFilter.reset, filter1 := LimitFilter.reset, filterTimer := 0, timer := 0
      drumLimited := false, solenoidLimited := false }
  other : roleOf t ≠ .winch → t.bridgeA = { s.bridgeA with used := drivesMode s.bridgeA.active.mode }

theorem imageBlocks_applyImage (img : ImageInForce) (s : State) : ImageBlocks s (applyImage img s) := by
  rw [applyImage_eq]
  split
  next winch => exact ⟨rfl, rfl, rfl, fun _ => ⟨rfl, rfl, rfl⟩, fun other => absurd winch other⟩
  next other => exact ⟨rfl, rfl, rfl, fun winch => absurd winch other, fun _ => rfl⟩

theorem ImageBlocks.settle (h : ImageBlocks s t) : ImageBlocks s (settle t) := by
  obtain ⟨state, silenceTimer, bridgeB, winch, other⟩ := h
  have report := sameButReport_settle t
  refine ⟨?_, ?_, ?_, ?_, ?_⟩
  all_goals rw [report]
  · exact state
  · exact silenceTimer
  · exact bridgeB
  · exact winch
  · exact other

variable {img : ImageInForce}

theorem Forced.settle (h : Forced img s t) : Forced img s (settle t) := by
  obtain ⟨image, packMonitor, figures, driveLimited, steerLimited, staging, power⟩ := h
  have report := sameButReport_settle t
  refine ⟨?_, ?_, ?_, ?_, ?_, ?_, ?_⟩
  all_goals rw [report]
  · exact image
  · exact packMonitor
  · exact figures
  · exact driveLimited
  · exact steerLimited
  · exact staging
  · exact power

/-- The wheel figures of a corner, of the image in force (R128). -/
theorem Forced.wheel (h : Forced img s t) (position : t.node.position = s.node.position) :
    t.drive.figures = if roleOf t = .corner then some (wheelFigures (fieldsOf t).drive) else none := by
  rw [h.figures, h.fields]
  exact (figuresUnder_of_same img.fields position).symm

/-! ## CONFIG -/

/-- All that CONFIG may change. -/
def SameButConfig (s t : State) : Prop :=
  SameButEntry { s with
    bus := { s.bus with queue := t.bus.queue, counters := { s.bus.counters with cfgIgnored := t.bus.counters.cfgIgnored } }
    node := { s.node with image := t.node.image, packMonitor := t.node.packMonitor }
    power := t.power, drive := { s.drive with figures := t.drive.figures, limited := t.drive.limited }
    steer := { s.steer with limited := t.steer.limited }
    winch := { s.winch with
      filter0 := t.winch.filter0, filter1 := t.winch.filter1, filterTimer := t.winch.filterTimer
      timer := t.winch.timer, drumLimited := t.winch.drumLimited, solenoidLimited := t.winch.solenoidLimited } } t

theorem sameButConfig_ignored (h : SameButReport (countCfgIgnored (popQueue s)) t) : SameButConfig s t := by
  unfold SameButConfig SameButEntry
  rw [h]
  rfl

theorem sameButConfig_held (h : SameButReport (segmentHeld payload (popQueue s)) t) : SameButConfig s t := by
  unfold SameButConfig SameButEntry
  rw [h]
  rfl

theorem sameButConfig_rejected
    (h : SameButReport (countCfgIgnored ((popQueue s).setNode { s.node with staging := [] })) t) : SameButConfig s t := by
  unfold SameButConfig SameButEntry
  rw [h]
  rfl

theorem sameButConfig_received (h : SameButEntry (received payload (popQueue s)) t) : SameButConfig s t := by
  unfold received at h
  unfold SameButConfig SameButEntry
  rw [h, sameButImage_applyImage]
  rfl

/-- What an accepted image leaves of the node, the queue and the counters. -/
theorem received_keeps (h : SameButEntry (received payload (popQueue s)) t) : t.node.position = s.node.position ∧
    t.bus.queue = s.bus.queue.tail ∧ t.bus.counters.cfgIgnored = s.bus.counters.cfgIgnored := by
  unfold received at h
  rw [h, sameButImage_applyImage]
  exact ⟨rfl, rfl, rfl⟩

theorem forced_received (payload : List Byte) (s : State) :
    Forced (stagedImage payload s) (segmentHeld payload s) (received payload s) := forced_applyImage _ _

theorem imageBlocks_received (payload : List Byte) (s : State) : ImageBlocks (segmentHeld payload s) (received payload s) :=
  imageBlocks_applyImage _ _

theorem execConfig_none (head : headOfKind .config s = none) : execConfig s = .next s := by
  unfold execConfig
  rw [head]

theorem execConfig_some {f : RxFrame} (head : headOfKind .config s = some f) :
    execConfig s = .next (settle (takeConfig f.payload (popQueue s))) := by
  unfold execConfig
  rw [head]
  rfl

theorem countCfgIgnored_eq (s : State) : countCfgIgnored s =
    { s with bus := { s.bus with counters := { s.bus.counters with cfgIgnored := min 255 (s.bus.counters.cfgIgnored + 1) } } } := by
  rw [← bumpTo_eq_min]
  rfl

/-- The pack monitor role and the wheel figures after an accepted image. -/
theorem roles_of_forced (forced : Forced (stagedImage payload s) (segmentHeld payload s) t)
    (position : t.node.position = s.node.position) :
    t.node.packMonitor = (decide (stationOf s = some (fieldsOf t).vehicle.packMonitorPosition) &&
      (s.pins.cells.toList.take (fieldsOf t).vehicle.cellCount).all fun v => decide (2000 ≤ v ∧ v ≤ 4500)) ∧
    t.drive.figures = (if roleOf t = .corner then some (wheelFigures (fieldsOf t).drive) else none) :=
  ⟨forced.monitors, forced.wheel position⟩

/-- What CONFIG makes of its segment. -/
theorem takeConfig_cases (payload : List Byte) (s : State) :
    takeConfig payload s = countCfgIgnored s ∨ takeConfig payload s = segmentHeld payload s ∨
      takeConfig payload s = countCfgIgnored (s.setNode { s.node with staging := [] }) ∨
      takeConfig payload s = enterCheck (received payload s) ∨ takeConfig payload s = received payload s := by
  by_cases ignored : s.node.state ≠ .listen ∨ s.node.image ≠ none ∨ segmentFits payload = false
  · exact .inl (takeConfig_ignored ignored)
  refine .inr ?_
  cases complete : stagingComplete (stagedWith payload s.node.staging) with
  | false => exact .inl (takeConfig_incomplete ignored complete)
  | true =>
    cases accepted : imageAccepted (stagedBytes (stagedWith payload s.node.staging)) with
    | false => exact .inr (.inl (takeConfig_rejected ignored complete accepted))
    | true =>
      rw [takeConfig_accepted ignored complete accepted]
      split
      · exact .inr (.inr (.inl rfl))
      · exact .inr (.inr (.inr rfl))

theorem sameButConfig_takeConfig (payload : List Byte) (s : State) :
    SameButConfig s (settle (takeConfig payload (popQueue s))) := by
  obtain ignored | held | rejected | checks | stays := takeConfig_cases payload (popQueue s)
  · rw [ignored]
    exact sameButConfig_ignored (sameButReport_settle _)
  · rw [held]
    exact sameButConfig_held (sameButReport_settle _)
  · rw [rejected]
    exact sameButConfig_rejected (sameButReport_settle _)
  · rw [checks]
    exact sameButConfig_received (checks_settle _).entry
  · rw [stays]
    exact sameButConfig_received (sameButEntry_of_report (sameButReport_settle _))

/-- Settles O26: the intake of the segment, then the staging image complete or not, accepted or not, and the image in
force before or after the silence timer. -/
theorem configSegmentsMakeTheImage : Obligations.ConfigSegmentsMakeTheImage := by
  intro s
  cases head : headOfKind .config s with
  | none =>
    exact ⟨s, execConfig_none head, rfl, fun _ => rfl, fun _ member => by cases member⟩
  | some f =>
    refine ⟨_, execConfig_some head, sameButConfig_takeConfig f.payload s, (fun h => by cases h), fun g member => ?_⟩
    obtain rfl : f = g := Option.some.inj member
    by_cases ignored : s.node.state ≠ .listen ∨ s.node.image ≠ none ∨ segmentFits f.payload = false
    · rw [if_pos ignored, takeConfig_ignored (s := popQueue s) ignored, countCfgIgnored_eq]
      rfl
    rw [if_neg ignored]
    have listening : s.node.state = .listen := not_not.1 (not_or.1 ignored).1
    cases complete : stagingComplete (stagedWith f.payload s.node.staging) with
    | false =>
      rw [if_pos rfl, takeConfig_incomplete (s := popQueue s) ignored complete]
      rfl
    | true =>
      rw [if_neg nofun]
      cases accepted : imageAccepted (stagedBytes (stagedWith f.payload s.node.staging)) with
      | false =>
        rw [if_pos rfl, takeConfig_rejected (s := popQueue s) ignored complete accepted, countCfgIgnored_eq]
        rfl
      | true =>
        rw [if_neg nofun, takeConfig_accepted (s := popQueue s) ignored complete accepted]
        have inForce := forced_received f.payload (popQueue s)
        have timer : (popQueue s).node.silenceTimer = s.node.silenceTimer := rfl
        rw [timer]
        by_cases ended : s.node.silenceTimer = none
        · rw [if_pos ended, if_pos ended]
          have checks := checks_settle (received f.payload (popQueue s))
          have taken := inForce.checks checks
          obtain ⟨position, queue, counted⟩ := received_keeps checks.entry
          obtain ⟨packMonitor, figures⟩ := roles_of_forced taken position
          exact ⟨taken.image, packMonitor, figures, taken.driveLimited, taken.steerLimited, taken.staging, taken.power, queue,
            counted, checks.arrived⟩
        · rw [if_neg ended, if_neg ended]
          have taken := inForce.settle
          obtain ⟨position, queue, counted⟩ :=
            received_keeps (sameButEntry_of_report (sameButReport_settle (received f.payload (popQueue s))))
          obtain ⟨packMonitor, figures⟩ := roles_of_forced taken position
          obtain ⟨state, silenceTimer, bridgeB, winch, other⟩ := (imageBlocks_received f.payload (popQueue s)).settle
          refine ⟨taken.image, packMonitor, figures, taken.driveLimited, taken.steerLimited, taken.staging, taken.power, queue,
            counted, state.trans listening, silenceTimer, bridgeB, ?_⟩
          split
          next role => exact winch role
          next role => exact other role

end Sys2Proof.NodeControl
end

section
/-! SUPPORT. The ranges of O12 in one predicate. Each shared operation and each node-state entry is shown to keep them once, by
a lemma that takes what comes before the operation; an operation that writes none of the ranged values needs no lemma, for the
predicate reads nothing else. -/

namespace Sys2Proof.CommandIntake

open Sys2Proof Sys2Proof.Machine Sys2Proof.Safety

variable {s t u : State}

/-! ## The ranges -/

/-- The values of a state that O12 keeps in range. -/
structure Figures where
  record : CommandRecord
  nextA : Setting
  activeA : Setting
  nextB : Setting
  activeB : Setting
  steerCeiling : Nat
  driveCeiling : Nat
  drumCeiling : Nat
  solenoidCeiling : Nat
  driveIntegrator : Int
  drumIntegrator : Int

def figuresOf (s : State) : Figures :=
  { record := s.intake.record, nextA := s.bridgeA.next, activeA := s.bridgeA.active, nextB := s.bridgeB.next
    activeB := s.bridgeB.active, steerCeiling := s.steer.ceiling, driveCeiling := s.drive.ceiling
    drumCeiling := s.winch.drumCeiling, solenoidCeiling := s.winch.solenoidCeiling, driveIntegrator := s.drive.integrator
    drumIntegrator := s.winch.integrator }

/-- Throttle, steer and lever lie within 1000 per mille of 0 (R62). -/
def RecordRanged (r : CommandRecord) : Prop := inPerMille r.throttle ∧ inPerMille r.steer ∧ inPerMille r.lever

/-- Each value in its range (R62, R123, R124, R136, R137, R157, R160). -/
structure InRange (x : Figures) : Prop where
  record : RecordRanged x.record
  nextA : x.nextA.duty ≤ 1000
  activeA : x.activeA.duty ≤ 1000
  nextB : x.nextB.duty ≤ 1000
  activeB : x.activeB.duty ≤ 1000
  steerCeiling : x.steerCeiling ≤ 1000
  driveCeiling : x.driveCeiling ≤ 1000
  drumCeiling : x.drumCeiling ≤ 1000
  solenoidCeiling : x.solenoidCeiling ≤ 1000
  driveIntegrator : inPerMille x.driveIntegrator
  drumIntegrator : inPerMille x.drumIntegrator

/-- The values of a state lie in their ranges. -/
abbrev Ranged (s : State) : Prop := InRange (figuresOf s)

theorem ranged_iff : Ranged s ↔ CommandInv s ∧ DutyInv s :=
  ⟨fun h => ⟨⟨h.record.1, h.record.2.1, h.record.2.2⟩, h.nextA, h.activeA, h.nextB, h.activeB, h.steerCeiling, h.driveCeiling,
      h.drumCeiling, h.solenoidCeiling, h.driveIntegrator, h.drumIntegrator⟩,
    fun ⟨⟨throttle, steer, lever⟩, d⟩ => ⟨⟨throttle, steer, lever⟩, d.nextA, d.activeA, d.nextB, d.activeB, d.steerCeiling,
      d.driveCeiling, d.drumCeiling, d.solenoidCeiling, d.driveIntegrator, d.drumIntegrator⟩⟩

theorem Ranged.ite {c : Prop} [Decidable c] (h : Ranged t) (k : Ranged u) : Ranged (if c then t else u) := by
  split
  · exact h
  · exact k

theorem inPerMille_zero : inPerMille 0 := ⟨by decide, by decide⟩

theorem inPerMille_clampInt (x : Int) : inPerMille (clampInt (-1000) 1000 x) := clampInt_range _ _ x (by decide)

theorem ranged_setMonitor {x : Monitor} (h : Ranged t) : Ranged (t.setMonitor x) := h

/-! ## The bus port's operations, reports and records -/

theorem ranged_placeFrame {k : TxKind} {payload : List Byte} (h : Ranged t) : Ranged (placeFrame k payload t) := by
  rw [placeFrame_frame]
  exact h

theorem ranged_requestBreak (h : Ranged t) : Ranged (requestBreak t) := by
  rw [TrailBus.requestBreak_eq, TrailBus.finishAttempt_eq]
  cases lineKind t with
  | none => exact .ite h h
  | some k => exact .ite h h

theorem ranged_placeReport (h : Ranged t) : Ranged (placeReport t) := by
  rw [NodeControl.sameButReport_placeReport t]
  exact h

theorem ranged_raiseEvent {e : ReportEvent} (h : Ranged t) : Ranged (raiseEvent e t) := by
  rw [NodeControl.raiseEvent_frame]
  exact h

theorem ranged_settle (h : Ranged t) : Ranged (settle t) := by
  rw [NodeControl.sameButReport_settle t]
  exact h

theorem ranged_addFault {kind : FaultKind} {output : FaultOutput} {detail : Int} (h : Ranged t) :
    Ranged (addFault kind output detail t) := ranged_raiseEvent h

theorem ranged_placeNotice (h : Ranged t) : Ranged (placeNotice t) := by
  unfold placeNotice
  split
  · exact ranged_placeFrame h
  · exact h

/-! ## The bridges and the drum -/

theorem ranged_writeBridgeA {m : BridgeMode} {d : Nat} (h : Ranged t) (duty : d ≤ 1000) : Ranged (writeBridgeA m d t) :=
  { h with nextA := duty }

theorem ranged_writeBridgeB {m : BridgeMode} {d : Nat} (h : Ranged t) (duty : d ≤ 1000) : Ranged (writeBridgeB m d t) :=
  { h with nextB := duty }

theorem ranged_forceBridgeA {m : BridgeMode} {d : Nat} (h : Ranged t) (duty : d ≤ 1000 := by decide) :
    Ranged (forceBridgeA m d t) := { h with nextA := duty, activeA := duty }

theorem ranged_forceBridgeB {m : BridgeMode} {d : Nat} (h : Ranged t) (duty : d ≤ 1000 := by decide) :
    Ranged (forceBridgeB m d t) := { h with nextB := duty, activeB := duty }

theorem ranged_zeroDrive (h : Ranged t) : Ranged (zeroDrive t) := { h with driveIntegrator := inPerMille_zero }

theorem ranged_brakeBridgeA (h : Ranged t) : Ranged (brakeBridgeA t) := ranged_forceBridgeA (ranged_zeroDrive h)

theorem ranged_holdBridgeA (h : Ranged t) : Ranged (holdBridgeA t) := ranged_brakeBridgeA h

theorem ranged_shutBridgeA (h : Ranged t) : Ranged (shutBridgeA t) := .ite (ranged_zeroDrive h) (ranged_brakeBridgeA h)

theorem ranged_offBridgeB (h : Ranged t) : Ranged (offBridgeB t) := ranged_forceBridgeB (t := t) h

theorem ranged_restBridges (h : Ranged t) : Ranged (restBridges t) := ranged_offBridgeB (ranged_forceBridgeA h)

theorem ranged_clearMarks (h : Ranged t) : Ranged (clearMarks t) := by
  rw [clearMarks_eq]
  exact h

theorem ranged_placeWinch (h : Ranged t) : Ranged (placeWinch t) := ranged_placeFrame h

/-- The integrator starts at 0 in HAUL_IN and PAY_OUT, and stands otherwise (R157). -/
theorem ranged_drumChanged {d : DrumState} (h : Ranged t) : Ranged (t.setWinch (NodeControl.drumChanged d t.winch)) := by
  refine { h with drumIntegrator := ?_ }
  dsimp only [figuresOf, State.setWinch_winch, NodeControl.drumChanged]
  split
  · exact inPerMille_zero
  · exact h.drumIntegrator

theorem ranged_setDrum {d : DrumState} (h : Ranged t) : Ranged (setDrum d t) := by
  rcases NodeControl.setDrum_cases d t with same | placed | unplaced
  · rwa [same]
  · rw [placed]
    exact ranged_raiseEvent (ranged_placeWinch (ranged_drumChanged h))
  · rw [unplaced]
    exact ranged_raiseEvent (ranged_drumChanged h)

theorem ranged_closeOperation {reason : EndReason} (h : Ranged t) : Ranged (closeOperation reason t) := by
  rcases closeOperation_cases reason t with ⟨_, same⟩ | ⟨_, _, closed⟩
  · rwa [same]
  · rw [closed]
    exact h

theorem ranged_endOperation {reason : EndReason} {d : DrumState} (h : Ranged t) : Ranged (endOperation reason d t) :=
  ranged_setDrum (ranged_brakeBridgeA (ranged_closeOperation h))

theorem ranged_releaseDrum {reason : EndReason} (h : Ranged t) : Ranged (releaseDrum reason t) := by
  have released := ranged_offBridgeB (ranged_closeOperation (reason := reason) h)
  unfold releaseDrum
  exact .ite (.ite released (ranged_setDrum released)) h

/-! ## The entries to the node states -/

theorem ranged_clearIntake (h : Ranged t) : Ranged (clearIntake t) :=
  { h with record := ⟨inPerMille_zero, inPerMille_zero, inPerMille_zero⟩ }

theorem ranged_clearSteer (h : Ranged t) : Ranged (clearSteer t) := ranged_offBridgeB (t := t) h

theorem ranged_goSafe {reason : EndReason} (h : Ranged t) : Ranged (goSafe reason t) :=
  ranged_holdBridgeA (ranged_releaseDrum (t := endTripWaitB (clearSteer t)) (ranged_clearSteer (t := t) h))

theorem ranged_moveTo {st : NodeState} (h : Ranged t) : Ranged (moveTo st t) := by
  unfold moveTo
  exact .ite h h

theorem ranged_setFunctions {l : ImageLights} (h : Ranged t) : Ranged (setFunctions l t) := by
  unfold setFunctions
  cases t.node.position <;> exact h

theorem ranged_startBeat (h : Ranged t) : Ranged (startBeat t) := .ite h h

theorem ranged_startReportTimer (h : Ranged t) : Ranged (startReportTimer t) := .ite h h

theorem ranged_lowerAllowance (h : Ranged t) : Ranged (lowerAllowance t) := .ite h h

/-- The outputs safe in a state just entered, with the CHECK step abandoned or not begun. -/
theorem ranged_enteredSafe {st : NodeState} {reason : EndReason} (h : Ranged t) :
    Ranged (goSafe reason (abandonCheck (moveTo st t))) :=
  ranged_goSafe (t := abandonCheck (moveTo st t)) (ranged_moveTo h)

theorem ranged_enterListen (h : Ranged t) : Ranged (enterListen t) := by
  have safe := ranged_clearIntake (ranged_enteredSafe (st := .listen) (reason := .fault) h)
  exact ranged_startBeat (ranged_setFunctions safe)

theorem ranged_enterRun (h : Ranged t) : Ranged (enterRun t) :=
  ranged_zeroDrive (t := clearLoss (moveTo .run t)) (ranged_moveTo h)

theorem ranged_enterFailsafe (h : Ranged t) : Ranged (enterFailsafe t) := by
  have moved : Ranged ((clearLoss (moveTo .failsafe t)).setIntake { (clearLoss (moveTo .failsafe t)).intake with
      bound := none, stage := .one }) := ranged_moveTo (st := .failsafe) h
  exact ranged_raiseEvent (.ite (ranged_releaseDrum (ranged_brakeBridgeA moved)) moved)

theorem ranged_enterCutoff {cause : CutoffCause} (h : Ranged t) : Ranged (enterCutoff cause t) := by
  have safe := ranged_clearIntake (ranged_enteredSafe (st := .cutoff) (reason := .cutoff) h)
  have recorded {st : NodeState} {s : State} (timed : Ranged s) {n : Node} {p : Power} {detail : Int} :
      Ranged (addFaultIn st .cutoff .none detail (((darkenForCutoff s).setNode n).setPower p)) := ranged_raiseEvent timed
  have timed := ranged_startReportTimer safe
  exact .ite h (.ite (ranged_requestBreak (recorded timed)) (recorded timed))

theorem ranged_enterConflict {cause : ConflictCause} {strapCode : Nat} (h : Ranged t) :
    Ranged (enterConflict cause strapCode t) := by
  have safe := ranged_enteredSafe (st := .conflict) (reason := .fault) h
  have recorded {st : NodeState} {s : State} {n : Node} {detail : Int} (safe : Ranged s) :
      Ranged (addFaultIn st .conflict .none detail (s.setNode n)) := ranged_raiseEvent safe
  exact ranged_startBeat (ranged_placeNotice (ranged_clearIntake (recorded safe)))

/-! ## The CHECK sequence -/

theorem ranged_withdrawA {result : CheckResult} (h : Ranged t) : Ranged (withdrawA result t) := by
  have held {m : BridgeMode} {x : Monitor} : Ranged (forceBridgeA m 0 (zeroDrive (t.setMonitor x))) :=
    ranged_forceBridgeA (ranged_zeroDrive h)
  exact .ite (ranged_setDrum (ranged_offBridgeB (ranged_closeOperation held))) held

theorem ranged_withdrawB (h : Ranged t) : Ranged (withdrawB t) := by
  have off {x : Monitor} : Ranged (offBridgeB (t.setMonitor x)) := ranged_offBridgeB h
  exact .ite (ranged_setDrum off) off

theorem ranged_withdrawLamp {l : Lamp} {current : Nat} (h : Ranged t) : Ranged (withdrawLamp l current t) :=
  ranged_addFault h

theorem ranged_setSensor {x : Sensor} {v : SensorState} (h : Ranged t) : Ranged (setSensor x v t) := by
  cases x <;> exact h

theorem ranged_failSensor {x : Sensor} {reading : Int} (h : Ranged t) : Ranged (failSensor x reading t) :=
  ranged_addFault (ranged_setSensor h)

theorem ranged_thermalEffects {before : ThermalClass} (h : Ranged t) : Ranged (thermalEffects before t) := by
  have lowered : Ranged (if before = .normal ∧ thermalClass t ≠ .normal then lowerAllowance t else t) :=
    .ite (ranged_lowerAllowance h) h
  unfold thermalEffects
  refine .ite ?_ lowered
  have shut {output : FaultOutput} {reading : Int} := ranged_shutBridgeA
    (ranged_addFault (kind := .overtemp) (output := output) (detail := reading) (ranged_offBridgeB lowered))
  have closed {output : FaultOutput} {reading : Int} := ranged_setDrum (d := .braked)
    (ranged_closeOperation (reason := .fault) (shut (output := output) (reading := reading)))
  dsimp only
  split
  · exact closed
  · exact closed
  · exact closed
  · exact ranged_setDrum shut
  all_goals exact shut

theorem ranged_checkSensor {x : Sensor} {reading : Int} (h : Ranged t) : Ranged (checkSensor x reading t) :=
  .ite (.ite (ranged_setSensor h) (ranged_failSensor h)) (ranged_setSensor h)

theorem ranged_temperatureStep (h : Ranged t) : Ranged (temperatureStep t) :=
  ranged_thermalEffects (ranged_checkSensor (ranged_checkSensor h))

/-- The duties of the CHECK steps are 100, 300 and 400 (R188 to R192). -/
theorem ranged_driveStep {st : CheckStep} (h : Ranged t) : Ranged (driveStep st t) := by
  cases st
  case pullDownA => exact ranged_forceBridgeA h
  case pullUpA => exact ranged_forceBridgeA h
  case loadA => exact ranged_forceBridgeA h
  case pullDownB => exact ranged_forceBridgeB h
  case pullUpB => exact ranged_forceBridgeB h
  case loadB => exact ranged_forceBridgeB h
  case sweepLeft => exact ranged_forceBridgeB h
  case sweepRight => exact ranged_forceBridgeB h
  case sweepReturn => exact ranged_forceBridgeB h
  all_goals exact h

theorem ranged_beginStep {st : CheckStep} (h : Ranged t) : Ranged (beginStep st t) := ranged_driveStep h

theorem ranged_enterSafe (h : Ranged t) : Ranged (enterSafe t) := by
  have entered : Ranged (clearLoss (abandonCheck (moveTo .safe t))) := ranged_moveTo (st := .safe) h
  have safe : Ranged (NodeControl.safeEntered t) := ranged_holdBridgeA (ranged_releaseDrum
    (t := endTripWaitB (offBridgeB (clearLoss (abandonCheck (moveTo .safe t)))))
    (ranged_offBridgeB (t := clearLoss (abandonCheck (moveTo .safe t))) entered))
  rw [NodeControl.enterSafe_eq]
  exact .ite (ranged_placeWinch safe) safe

theorem ranged_reachStep {st : CheckStep} (h : Ranged t) : Ranged (reachStep st t) := by
  unfold reachStep
  split
  · exact h
  · exact ranged_temperatureStep (t := commitRatings t) h
  · exact h

theorem ranged_advance {steps : List CheckStep} (h : Ranged t) : Ranged (advance steps t) := by
  induction steps generalizing t with
  | nil => exact ranged_enterSafe h
  | cons st rest ih =>
    have reached := ranged_reachStep (st := st) h
    unfold advance
    exact .ite (ih reached) (.ite (ih reached) (.ite reached (ranged_beginStep reached)))

theorem ranged_completeStep {st : CheckStep} (h : Ranged t) : Ranged (completeStep st t) :=
  ranged_advance (ranged_restBridges h)

theorem ranged_enterCheck (h : Ranged t) : Ranged (enterCheck t) := by
  have safe := ranged_clearIntake (ranged_goSafe (reason := .fault) (ranged_moveTo (st := .check) h))
  exact ranged_advance (ranged_setMonitor (ranged_setMonitor safe))

/-! ## An image comes into force; the resets -/

theorem ranged_applyImage {img : ImageInForce} (h : Ranged t) : Ranged (applyImage img t) := by
  have formed {n : Node} {d : Option WheelFigures} :
      Ranged (setFunctions img.fields.lights ((t.setNode n).setDrive { t.drive with figures := d })) := ranged_setFunctions h
  have marked {s : State} {p : Power} (formed : Ranged s) : Ranged (clearMarks (s.setPower p)) := ranged_clearMarks formed
  have sampled {s : State} {f : LimitFilter} (marked : Ranged s) :
      Ranged (holdBridgeA (s.setWinch { s.winch with filter0 := f, filter1 := f, filterTimer := 0, timer := 0 })) :=
    ranged_holdBridgeA marked
  unfold applyImage
  exact .ite (sampled (marked formed)) (marked formed)

/-- The reset values lie in their ranges. -/
theorem ranged_reset : Ranged State.reset := by
  exact ⟨⟨inPerMille_zero, inPerMille_zero, inPerMille_zero⟩, by decide, by decide, by decide, by decide, by decide, by decide,
    by decide, by decide, inPerMille_zero, inPerMille_zero⟩

/-- RESTART puts every ranged value in its reset state but for the modes of the bridges (Table 2-7). -/
theorem ranged_restartBlocks (s : State) : Ranged (restartBlocks s) := by
  rw [NodeControl.restartBlocks_eq]
  exact { ranged_reset with nextA := Nat.zero_le _, activeA := Nat.zero_le _, nextB := Nat.zero_le _, activeB := Nat.zero_le _ }

end Sys2Proof.CommandIntake
end

section
/-! SUPPORT and THEOREM. The meaning of every command keeps the ranges of O12, unit by unit. -/

namespace Sys2Proof.CommandIntake

open Sys2Proof Sys2Proof.Machine Sys2Proof.Safety

variable {s t u : State}

/-! ## Answers -/

/-- Every next state that a command answers with has its values in range. -/
def AnswerRanged (a : Answer) : Prop := ∀ t, a = .next t → Ranged t

theorem AnswerRanged.next (h : Ranged t) : AnswerRanged (.next t) := by
  rintro _ ⟨⟩
  exact h

theorem AnswerRanged.done (h : Ranged t) : AnswerRanged (done t) := .next (ranged_settle h)

theorem AnswerRanged.ite {a b : Answer} {c : Prop} [Decidable c] (h : AnswerRanged a) (k : AnswerRanged b) :
    AnswerRanged (if c then a else b) := by
  split
  · exact h
  · exact k

/-! ## Duties and ceilings -/

theorem natAbs_clampInt_le (top : Nat) (x : Int) : (clampInt (-top) top x).natAbs ≤ top := by
  have range := clampInt_range (-top) top x (by omega)
  omega

/-- A duty under a current ceiling stays within 1000 per mille (R124, R137). -/
theorem natAbs_underCeiling {ceiling : Nat} (h : ceiling ≤ 1000) (raw : Int) :
    (clampInt (-ceiling) ceiling raw).natAbs ≤ 1000 := (natAbs_clampInt_le ceiling raw).trans h

theorem settingOf_duty_le (duty : Int) : (settingOf duty).duty ≤ duty.natAbs := by
  unfold settingOf
  split
  · dsimp only
    omega
  · split
    · dsimp only
      omega
    · exact Nat.zero_le _

theorem loopSetting_duty_le (target duty : Int) : (loopSetting target duty).duty ≤ duty.natAbs := by
  unfold loopSetting
  split
  · exact Nat.zero_le _
  · exact settingOf_duty_le duty

theorem drumSetting_duty_le (dir : WinchDir) (duty : Int) : (drumSetting dir duty).duty ≤ duty.natAbs := by
  cases dir <;> unfold drumSetting <;> dsimp only <;> split <;> dsimp only <;> omega

/-- The integrator of either loop after its step (R136, R157). -/
theorem inPerMille_integrate (g : Gains) (integrator err : Int) : inPerMille (integrate g integrator err) :=
  inPerMille_clampInt _

/-! ## The bus port (spec 01) -/

theorem ranged_countFailure {how : RxFail} (h : Ranged t) : Ranged (countFailure how t) := by
  cases how <;> exact h

theorem answerRanged_receptionFailed {how : RxFail} (h : Ranged s) : AnswerRanged (execReceptionFailed how s) := by
  have counted : Ranged (countUnless (exemptNow how s) (countFailure how) s) := .ite h (ranged_countFailure h)
  unfold execReceptionFailed
  exact .ite (.next counted) (.next h)

theorem ranged_disposeFrame {echo : Bool} {kind : FrameKind} {sender : Nat} {payload : List Byte} (h : Ranged t) :
    Ranged (disposeFrame echo kind sender payload t) := by
  have queued {f : RxFrame} : Ranged (enqueue f t) := by
    unfold enqueue
    exact .ite h h
  unfold disposeFrame
  exact .ite h (.ite h (.ite h queued))

theorem answerRanged_frameReceived {bytes : List Byte} (h : Ranged s) : AnswerRanged (execFrameReceived bytes s) := by
  have received {x : Receiver} : Ranged (setRx x s) := h
  have counted {f : BusCounters → BusCounters} {x : Receiver} : Ranged (countBus f (setRx x s)) := h
  unfold execFrameReceived
  refine .ite ?_ (.next h)
  dsimp only
  split
  · exact .next (.ite received counted)
  · exact .next (.ite received counted)
  · exact .next (ranged_disposeFrame received)

theorem answerRanged_breakRecognised (h : Ranged s) : AnswerRanged (execBreakRecognised s) := by
  have received {x : Receiver} : Ranged (setRx x s) := h
  unfold execBreakRecognised
  exact .ite (.next received) (.done (ranged_enterCutoff received))

theorem answerRanged_attemptStart (h : Ranged s) : AnswerRanged (execAttemptStart s) := by
  unfold execAttemptStart
  refine .ite ?_ (.next h)
  split
  · exact .next h
  · split
    · exact .next h
    · exact .next h

theorem ranged_loseAttempt {k : TxKind} (h : Ranged t) : Ranged (loseAttempt k t) := by
  unfold loseAttempt
  exact .ite h h

theorem answerRanged_arbitrationLost (h : Ranged s) : AnswerRanged (execArbitrationLost s) := by
  unfold execArbitrationLost
  split
  · exact .next h
  · exact .next (ranged_loseAttempt h)

theorem answerRanged_lineFault (h : Ranged s) : AnswerRanged (execLineFault s) := by
  unfold execLineFault
  split
  · exact .next h
  next k _ =>
    have lost : Ranged (loseAttempt k s) := ranged_loseAttempt h
    exact .next lost

theorem answerRanged_collision (h : Ranged s) : AnswerRanged (execCollision s) := by
  have exempt {b : Bool} {t : State} (h : Ranged t) : Ranged (markExempt (if b then countTxDrop t else t)) := by
    cases b <;> exact h
  have freed {k : TxKind} {sl : Slot} : Ranged (countCollision (setSlot k sl (clearAttempt s))) := h
  unfold execCollision
  split
  · exact .next h
  · exact .next (exempt freed)

theorem ranged_restartCycle (h : Ranged t) : Ranged (restartCycle t) := h

theorem ranged_completeAttempt (h : Ranged t) : Ranged (completeAttempt t) := by
  have finished : Ranged (finishAttempt t) := by
    rw [TrailBus.finishAttempt_eq]
    cases lineKind t <;> exact h
  exact finished

theorem answerRanged_attemptComplete (h : Ranged s) : AnswerRanged (execAttemptComplete s) := by
  unfold execAttemptComplete
  split
  · exact .next h
  · exact .next (.ite (ranged_restartCycle (ranged_completeAttempt h)) (ranged_completeAttempt h))

/-! ## The light sequencer (spec 09) -/

theorem ranged_setLights {x : Lights} (h : Ranged t) : Ranged (t.setLights x) := h

theorem ranged_mapChannels {f : Lamp → Channel → Channel} (h : Ranged t) : Ranged (mapChannels f t) := h

theorem ranged_wrapCycle (h : Ranged t) : Ranged (wrapCycle t) := by
  unfold wrapCycle
  exact .ite (ranged_placeFrame h) h

theorem ranged_beatStep (h : Ranged t) : Ranged (beatStep t) := by
  have wrapped : Ranged (promoteAtWrap (wrapCycle (mapChannels (fun _ c => { c with active := c.staged }) t))) :=
    ranged_mapChannels (ranged_wrapCycle (ranged_mapChannels h))
  exact ranged_mapChannels (ranged_mapChannels (ranged_setLights (ranged_setLights
    (.ite wrapped (ranged_setLights (ranged_mapChannels h))))))

theorem answerRanged_beatTaken (h : Ranged s) : AnswerRanged (execBeatTaken s) := by
  have withdrawn {x : Lights} : Ranged ((withdrawFrame .beat (popQueue s)).setLights x) := h
  unfold execBeatTaken
  split
  · exact .next h
  · split
    · exact .next h
    · exact .next (ranged_restartCycle withdrawn)

/-! ## The node controller (spec 02, 03) -/

theorem ranged_setNode {x : Node} (h : Ranged t) : Ranged (t.setNode x) := h

theorem ranged_popQueue (h : Ranged t) : Ranged (popQueue t) := h

theorem answerRanged_strapReadSuccess {p : Position} (h : Ranged s) : AnswerRanged (execStrapReadSuccess p s) := by
  unfold execStrapReadSuccess
  exact .ite (.next (ranged_enterListen (ranged_setNode h))) (.next h)

theorem answerRanged_strapReadFail {last : Option Position} (h : Ranged s) : AnswerRanged (execStrapReadFail last s) := by
  unfold execStrapReadFail
  exact .ite (.next (ranged_enterConflict (ranged_setNode h))) (.next h)

theorem answerRanged_silenceTimerExpiry (h : Ranged s) : AnswerRanged (execSilenceTimerExpiry s) := by
  have reported := ranged_placeReport (ranged_setNode (x := { s.node with silenceTimer := none }) h)
  unfold execSilenceTimerExpiry
  exact .ite (.done (.ite (ranged_enterCheck reported) reported)) (.next h)

theorem answerRanged_defaultTimerExpiry (h : Ranged s) : AnswerRanged (execDefaultTimerExpiry s) := by
  unfold execDefaultTimerExpiry
  exact .ite (.ite (.next h) (.done (ranged_enterCheck (ranged_setNode (ranged_applyImage h))))) (.next h)

theorem ranged_completeImage (h : Ranged t) : Ranged (completeImage t) := by
  have applied := ranged_applyImage (img := receivedImage (stagedBytes t.node.staging)) h
  unfold completeImage
  exact .ite (.ite (ranged_enterCheck applied) applied) h

theorem ranged_takeConfig {payload : List Byte} (h : Ranged t) : Ranged (takeConfig payload t) := by
  have ignored : Ranged (countCfgIgnored t) := h
  have staged {index : Nat} {bytes : List Byte} : Ranged (stageSegment index bytes t) := by
    unfold stageSegment
    exact .ite (ranged_completeImage (ranged_setNode h)) h
  unfold takeConfig
  refine .ite ?_ ignored
  cases payload with
  | nil => exact ignored
  | cons i bytes => exact .ite staged ignored

theorem answerRanged_config (h : Ranged s) : AnswerRanged (execConfig s) := by
  unfold execConfig
  split
  · exact .next h
  · exact .done (ranged_takeConfig (ranged_popQueue h))

theorem ranged_takeAssign {serial : BitVec 24} {position : Nat} (h : Ranged t) : Ranged (takeAssign serial position t) := by
  have refused : Ranged (refuseAssign t) := ranged_placeNotice (ranged_setNode h)
  unfold takeAssign
  refine .ite ?_ h
  cases posOfCode position with
  | none => exact refused
  | some p => exact .ite refused (ranged_enterListen (ranged_restartBlocks _))

theorem answerRanged_assign (h : Ranged s) : AnswerRanged (execAssign s) := by
  unfold execAssign
  split
  · exact .next h
  · split
    · exact .next h
    · exact .next (ranged_takeAssign (ranged_popQueue h))

theorem answerRanged_ownStationFrame (h : Ranged s) : AnswerRanged (execOwnStationFrame s) := by
  unfold execOwnStationFrame
  split
  · exact .next h
  · exact .next (.ite (ranged_enterConflict (ranged_popQueue h)) h)

/-! ## The peer monitor and the queries (spec 03) -/

theorem answerRanged_report (h : Ranged s) : AnswerRanged (execReport s) := by
  unfold execReport
  split
  · exact .next h
  · unfold takeReport
    split <;> exact .next h

theorem answerRanged_peerLost {station : Nat} (h : Ranged s) : AnswerRanged (execPeerLost station s) := by
  unfold execPeerLost
  split <;> exact .next h

theorem answerRanged_winch (h : Ranged s) : AnswerRanged (execWinch s) := by
  have taken {f : RxFrame} : Ranged (takeWinch f (popQueue s)) := by
    unfold takeWinch
    refine .ite h ?_
    split <;> exact h
  unfold execWinch
  split
  · exact .next h
  · exact .next taken

theorem ranged_placeAnswer {asker code : Nat} {result : AnswerResult} {data : List Byte} (h : Ranged t) :
    Ranged (placeAnswer asker code result data t) := ranged_placeFrame h

theorem answerRanged_onQuery {code : QueryCode} {act : QueryRead → State → State} (h : Ranged s)
    (acts : ∀ q, Ranged (popQueue s) → Ranged (act q (popQueue s))) : AnswerRanged (onQuery code act s) := by
  unfold onQuery
  split
  · exact .next h
  · exact .ite (.done (.ite (acts _ h) h)) (.next h)

theorem answerRanged_answerOk {code : QueryCode} {data : State → List Byte} (h : Ranged s) :
    AnswerRanged (onQuery code (answerOk data) s) := answerRanged_onQuery h fun _ => ranged_placeAnswer

theorem ranged_answerIndexed {α : Type} {top : Nat} {l : List α} {data : α → List Byte} {q : QueryRead} (h : Ranged t) :
    Ranged (answerIndexed top l data q t) := by
  unfold answerIndexed
  refine .ite (ranged_placeAnswer h) ?_
  split <;> exact ranged_placeAnswer h

theorem answerRanged_fault (h : Ranged s) : AnswerRanged (execFault s) :=
  answerRanged_onQuery h fun _ => ranged_answerIndexed

theorem answerRanged_winchLog (h : Ranged s) : AnswerRanged (execWinchLog s) :=
  answerRanged_onQuery h fun _ k => .ite (ranged_answerIndexed k) (ranged_placeAnswer k)

theorem answerRanged_restart (h : Ranged s) : AnswerRanged (execRestart s) :=
  answerRanged_onQuery h fun _ k =>
    .ite (ranged_placeAnswer k) (ranged_enterListen (ranged_placeAnswer (ranged_restartBlocks _)))

theorem answerRanged_recheck (h : Ranged s) : AnswerRanged (execRecheck s) :=
  answerRanged_onQuery h fun _ k => .ite (ranged_enterCheck (ranged_placeAnswer k)) (ranged_placeAnswer k)

theorem answerRanged_queryUnknownCode (h : Ranged s) : AnswerRanged (execQueryUnknownCode s) := by
  have answered {asker code : Nat} : Ranged (placeAnswer asker code .unknown [] (popQueue s)) := ranged_placeAnswer h
  unfold execQueryUnknownCode
  split
  · exact .next h
  · split
    · exact .next h
    · exact .ite (.next h) (.next (.ite answered h))

/-! ## The command intake (spec 04) -/

/-- A taken command's values are clamped (R62). -/
theorem recordRanged_takenRecord (held : CommandRecord) (c : CommandFrame) : RecordRanged (takenRecord held c) :=
  ⟨inPerMille_clampInt _, inPerMille_clampInt _, inPerMille_clampInt _⟩

theorem ranged_offerCommand (h : Ranged t) : Ranged (offerCommand t) := h

theorem ranged_judgeCommand (h : Ranged t) : Ranged (judgeCommand t) := by
  have offered := ranged_offerCommand h
  have ran := ranged_offerCommand (ranged_enterRun h)
  unfold judgeCommand
  dsimp only
  split
  · exact .ite (.ite offered ran) (ranged_offerCommand (ranged_setNode h))
  · exact offered
  · exact .ite ran h
  all_goals exact h

theorem ranged_takeCommand {sender : Nat} {c : CommandFrame} (h : Ranged t) : Ranged (takeCommand sender c t) :=
  ranged_judgeCommand { h with record := recordRanged_takenRecord _ _ }

theorem ranged_dealCommand {sender : Nat} {payload : List Byte} (h : Ranged t) : Ranged (dealCommand sender payload t) := by
  have refreshed : Ranged (refreshLink sender t) := h
  unfold dealCommand
  refine .ite h ?_
  split
  · exact h
  · exact .ite refreshed (ranged_takeCommand h)

theorem answerRanged_command (h : Ranged s) : AnswerRanged (execCommand s) := by
  unfold execCommand
  split
  · exact .next h
  · exact .done (ranged_dealCommand (ranged_popQueue h))

theorem answerRanged_linkExpiry (h : Ranged s) : AnswerRanged (execLinkExpiry s) := by
  have unbound : Ranged (s.setIntake { s.intake with bound := none }) := h
  unfold execLinkExpiry
  refine .ite ?_ (.next h)
  split
  · exact .next h
  · exact .done (ranged_enterFailsafe unbound)
  all_goals exact .next h

theorem answerRanged_failsafeStage2 (h : Ranged s) : AnswerRanged (execFailsafeStage2 s) := by
  have second : Ranged (s.setIntake { s.intake with stage := .two }) := h
  unfold execFailsafeStage2
  exact .ite (.next (ranged_offBridgeB second)) (.next h)

/-! ## The power supervisor (spec 05) -/

theorem ranged_setPower {x : Power} (h : Ranged t) : Ranged (t.setPower x) := h

theorem ranged_cutoffOn {cause : Option CutoffCause} (h : Ranged t) : Ranged (cutoffOn cause t) := by
  cases cause with
  | none => exact h
  | some _ => exact ranged_enterCutoff h

theorem ranged_stageJudge (h : Ranged t) : Ranged (stageJudge t) :=
  ranged_cutoffOn (ranged_cutoffOn (.ite (ranged_setPower h) (ranged_raiseEvent (ranged_setPower h))))

theorem ranged_budgetTick {r : BudgetReadings} (h : Ranged t) : Ranged (budgetTick r t) := by
  have read : Ranged (stagePack (stageReadings r t)) := ranged_setPower (ranged_setPower h)
  exact ranged_clearMarks (ranged_setPower (ranged_stageJudge read))

theorem answerRanged_budgetTick {r : BudgetReadings} (h : Ranged s) : AnswerRanged (execBudgetTick r s) := by
  have presented : Ranged (presentReadings r s) := h
  unfold execBudgetTick
  exact .ite (.done (ranged_budgetTick presented)) (.next presented)

theorem answerRanged_peerCutoffTest (h : Ranged s) : AnswerRanged (execPeerCutoffTest s) := by
  unfold execPeerCutoffTest
  exact .ite (.next h) (.done (.ite (ranged_enterCutoff (ranged_setPower h)) (ranged_setPower h)))

/-! ## The steering unit (spec 06) -/

theorem ranged_readActuator {pot isb : Nat} (h : Ranged t) : Ranged (readActuator pot isb t) := h

theorem ranged_startLoop (h : Ranged t) : Ranged (startLoop t) := by
  unfold startLoop
  exact .ite h h

theorem ranged_declareStall {err : Int} (h : Ranged t) : Ranged (declareStall err t) := by
  unfold declareStall
  exact .ite (ranged_addFault h) h

/-- The stall limit only lowers a duty (R125). -/
theorem natAbs_stallCut {c : Prop} [Decidable c] {duty : Int} (h : duty.natAbs ≤ 1000) :
    (if c then clampInt (-300) 300 duty else duty).natAbs ≤ 1000 := by
  split
  · exact (natAbs_clampInt_le 300 duty).trans (by decide)
  · exact h

theorem ranged_loopTick {isb : Nat} (h : Ranged t) : Ranged (loopTick isb t) := by
  have ceiling := moveCeiling_range isb t.power.grants.bridgeB t.steer.ceiling h.steerCeiling
  have moved {x : Steer} (held : x.ceiling ≤ 1000) : Ranged (t.setSteer x) := { h with steerCeiling := held }
  unfold loopTick
  refine ranged_writeBridgeB (.ite (ranged_declareStall (moved ceiling)) (moved ceiling)) ?_
  exact (settingOf_duty_le _).trans (natAbs_stallCut (natAbs_stallCut (natAbs_underCeiling ceiling _)))

theorem answerRanged_actuatorTick {pot isb : Nat} (h : Ranged s) : AnswerRanged (execActuatorTick pot isb s) := by
  have read : Ranged (readActuator pot isb s) := ranged_readActuator h
  unfold execActuatorTick
  exact .ite (.ite (.done (ranged_loopTick (ranged_startLoop read))) (.next (.ite (ranged_offBridgeB read) read))) (.next h)

theorem answerRanged_steerStall (h : Ranged s) : AnswerRanged (execSteerStall s) := by
  unfold execSteerStall
  exact .ite (.done (ranged_writeBridgeB (ranged_declareStall h) ((Nat.min_le_left _ _).trans (by decide)))) (.next h)

theorem answerRanged_steerSensorLost {pot : Nat} (h : Ranged s) : AnswerRanged (execSteerSensorLost pot s) := by
  have lost {p : Pins} {n : Nat} {b : Bool} :
      Ranged ((s.setPins p).setSteer { s.steer with lossCount := n, steerLost := b }) := h
  unfold execSteerSensorLost
  exact .ite (.done (ranged_addFault (ranged_offBridgeB (ranged_raiseEvent lost)))) (.next h)

/-! ## The drive unit (spec 07) -/

theorem ranged_loseEncoder (h : Ranged t) : Ranged (loseEncoder t) :=
  ranged_addFault { h with driveIntegrator := inPerMille_zero }

theorem ranged_recoverEncoder (h : Ranged t) : Ranged (recoverEncoder t) := { h with driveIntegrator := inPerMille_zero }

theorem ranged_watchLoss (h : Ranged t) : Ranged (watchLoss t) := by
  unfold watchLoss
  exact .ite h (.ite (.ite (ranged_loseEncoder h) h) h)

/-- What a row of Table 7-2 leaves is in range: the integrator, the ceiling and the duty it writes. -/
structure RowRanged (r : RowResult) : Prop where
  integrator : inPerMille r.integrator
  ceiling : r.ceiling ≤ 1000
  duty : ∀ x, r.set = some x → x.duty ≤ 1000

theorem RowRanged.ite {a b : RowResult} {c : Prop} [Decidable c] (h : RowRanged a) (k : RowRanged b) :
    RowRanged (if c then a else b) := by
  split
  · exact h
  · exact k

theorem rowRanged_holdRow {c : DriveCondition} {set : Option Setting} (h : Ranged t)
    (duty : ∀ x, set = some x → x.duty ≤ 1000) : RowRanged (holdRow c set t) := ⟨inPerMille_zero, h.driveCeiling, duty⟩

/-- A setting written with a duty in range. -/
theorem duty_of_some {x : Setting} (h : x.duty ≤ 1000) : ∀ y, some x = some y → y.duty ≤ 1000 := by
  rintro _ ⟨⟩
  exact h

/-- Rows 1 to 5 hold bridge A at duty 0, or write nothing. -/
theorem rowRanged_earlyRow {r : RowResult} (h : Ranged t) (row : earlyRow t = some r) : RowRanged r := by
  have hold {c : DriveCondition} {m : BridgeMode} : RowRanged (holdRow c (some ⟨m, 0⟩) t) :=
    rowRanged_holdRow h (duty_of_some (Nat.zero_le _))
  have leave {c : DriveCondition} : RowRanged (holdRow c none t) := rowRanged_holdRow h nofun
  unfold earlyRow at row
  split at row
  · cases row
    exact hold
  split at row
  · cases row
    exact leave
  split at row
  · split at row <;> cases row
    · exact leave
    · exact hold
  split at row
  · cases row
    exact hold
  split at row <;> cases row
  exact hold

/-- Rows 6 to 9 write a duty under the ceiling (R136, R137). -/
theorem rowRanged_lateRow {isa : Nat} {ramped measured : Int} (h : Ranged t) : RowRanged (lateRow t isa ramped measured) := by
  have ceiling := moveCeiling_range isa t.power.grants.bridgeA t.drive.ceiling h.driveCeiling
  have rest {c : DriveCondition} {target : Int} {m : BridgeMode} :
      RowRanged ⟨c, target, 0, moveCeiling isa t.power.grants.bridgeA t.drive.ceiling, false, some ⟨m, 0⟩⟩ :=
    ⟨inPerMille_zero, ceiling, duty_of_some (Nat.zero_le _)⟩
  unfold lateRow
  refine .ite rest (.ite rest (.ite ⟨inPerMille_zero, ceiling, duty_of_some ?_⟩
    ⟨inPerMille_integrate _ _ _, ceiling, duty_of_some ?_⟩))
  · exact (settingOf_duty_le _).trans (natAbs_underCeiling ceiling _)
  · exact (loopSetting_duty_le _ _).trans (natAbs_underCeiling ceiling _)

theorem rowRanged_takeRow {isa : Nat} (h : Ranged t) : RowRanged (takeRow isa t).1 := by
  unfold takeRow
  split
  next row => exact rowRanged_earlyRow h row
  next => exact rowRanged_lateRow h

theorem ranged_writeIf {set : Option Setting} (h : Ranged t) (duty : ∀ x, set = some x → x.duty ≤ 1000) :
    Ranged (writeIf set t) := by
  cases set with
  | none => exact h
  | some x => exact ranged_writeBridgeA h (duty x rfl)

theorem ranged_setDriveFlags (h : Ranged t) : Ranged (setDriveFlags t) := by
  unfold setDriveFlags
  exact .ite h (ranged_raiseEvent h)

theorem ranged_setDrive {x : Drive} (h : Ranged t) (ceiling : x.ceiling ≤ 1000) (integrator : inPerMille x.integrator) :
    Ranged (t.setDrive x) := { h with driveCeiling := ceiling, driveIntegrator := integrator }

theorem ranged_cornerTick {isa : Nat} (h : Ranged t) : Ranged (cornerTick isa t) := by
  have measured {x y : Int} : Ranged (t.setDrive { t.drive with measured := x, speed := y }) := h
  have recorded {s : State} {n : Nat} (h : Ranged s) : Ranged (s.setDrive { s.drive with prevRamped := n }) := h
  have watched := ranged_watchLoss (measured (x := measuredSpeed t.drive) (y := wheelSpeed t (measuredSpeed t.drive)))
  have row {n : Nat} := rowRanged_takeRow (isa := isa) (recorded (n := n) watched)
  unfold cornerTick
  exact ranged_setDriveFlags (ranged_writeIf (ranged_setDrive (recorded watched) row.ceiling row.integrator) row.duty)

theorem answerRanged_driveTick {isa : Nat} (h : Ranged s) : AnswerRanged (execDriveTick isa s) := by
  have timed {p : Pins} {n : Nat} : Ranged ((s.setPins p).setDrive { s.drive with timer := n }) := h
  unfold execDriveTick
  dsimp only
  split
  · exact .done (ranged_cornerTick timed)
  all_goals exact .next h

theorem ranged_captured {dir : Direction} {interval : Nat} (h : Ranged t) :
    Ranged (t.setDrive (captureEdge dir interval t.drive)) := by
  unfold captureEdge
  cases t.drive.lastEdge with
  | none => exact h
  | some e =>
    dsimp only
    split <;> exact h

theorem ranged_countRecovery {dir : Direction} (h : Ranged t) : Ranged (countRecovery dir t) := by
  unfold countRecovery
  exact .ite (.ite (.ite (ranged_recoverEncoder h) h) h) h

theorem ranged_drumEdge {dir : Direction} (h : Ranged t) : Ranged (drumEdge dir t) := by
  have counted {n : Nat} {op : Option OperationRecord} : Ranged (t.setWinch { t.winch with lineOut := n, op }) := h
  unfold drumEdge
  exact .ite (ranged_endOperation counted) counted

theorem answerRanged_encoderEdge {dir : Direction} {interval : Nat} (h : Ranged s) :
    AnswerRanged (execEncoderEdge dir interval s) := by
  unfold execEncoderEdge
  dsimp only
  split
  · exact .next (ranged_countRecovery (ranged_captured h))
  · exact .done (ranged_drumEdge (ranged_captured h))
  · exact .next h
  · exact .next h

theorem ranged_tripA (h : Ranged t) : Ranged (tripA t) := by
  have withdrawn : Ranged (withdrawByTrips t) := ranged_addFault (ranged_withdrawA h)
  have opened : Ranged (forceBridgeA .off 0 (zeroDrive t)) := ranged_forceBridgeA (ranged_zeroDrive h)
  unfold tripA
  exact .ite withdrawn (ranged_addFault { opened with drumIntegrator := inPerMille_zero })

theorem answerRanged_overcurrentTrip {current : Nat} (h : Ranged s) : AnswerRanged (execOvercurrentTrip current s) := by
  unfold execOvercurrentTrip
  exact .ite (.done (ranged_tripA h)) (.next h)

/-- A boundary applies what is written already (R141). -/
theorem answerRanged_pwmPeriodBoundary (h : Ranged s) : AnswerRanged (execPwmPeriodBoundary s) :=
  .next { h with activeA := h.nextA, activeB := h.nextB }

/-! ## The winch unit (spec 08) -/

theorem ranged_driveSolenoid {isb : Nat} (h : Ranged t) : Ranged (driveSolenoid isb t) := by
  have ceiling := moveCeiling_range isb t.power.grants.bridgeB t.winch.solenoidCeiling h.solenoidCeiling
  exact { h with nextB := ceiling, solenoidCeiling := ceiling }

theorem ranged_fromBraked {isb : Nat} (h : Ranged t) : Ranged (fromBraked isb t) := by
  have engaging : Ranged (setDrum .engaging t) := ranged_setDrum h
  unfold fromBraked
  dsimp only
  split
  · exact .ite (ranged_driveSolenoid (ranged_setDrum h)) h
  · exact .ite h engaging

/-- The drum's duty stays under its ceiling, and its integrator is clamped or 0 (R157, R160). -/
theorem ranged_drumLoop {dir : WinchDir} {isa : Nat} (h : Ranged t) : Ranged (drumLoop dir isa t) := by
  have ceiling := moveCeiling_range isa t.power.grants.bridgeA t.winch.drumCeiling h.drumCeiling
  unfold drumLoop
  refine .ite { h with drumIntegrator := inPerMille_zero } (ranged_writeBridgeA
    { h with drumCeiling := ceiling, drumIntegrator := inPerMille_integrate _ _ _ } ?_)
  exact (drumSetting_duty_le _ _).trans (natAbs_underCeiling ceiling _)

theorem ranged_watchDrum {isa : Nat} (h : Ranged t) : Ranged (watchDrum isa t) := by
  unfold watchDrum
  refine .ite ?_ h
  split
  · exact h
  · exact .ite (ranged_endOperation h) h

theorem ranged_setDrumTarget {dir : WinchDir} (h : Ranged t) : Ranged (setDrumTarget dir t) := h

theorem ranged_fromRunning {dir : WinchDir} {isa : Nat} (h : Ranged t) : Ranged (fromRunning dir isa t) := by
  have looped : Ranged (drumLoop dir isa (setDrumTarget dir t)) := ranged_drumLoop (ranged_setDrumTarget h)
  unfold fromRunning
  exact .ite (.ite (ranged_watchDrum looped) looped) (ranged_endOperation h)

theorem ranged_engageEnd (h : Ranged t) : Ranged (engageEnd t) := by
  have turned {op : Option OperationRecord} : Ranged (t.setWinch { t.winch with op }) := h
  have givenUp : Ranged (setDrum .braked (closeOperation .lever t)) := ranged_setDrum (ranged_closeOperation h)
  unfold engageEnd
  split
  · exact givenUp
  · exact .ite (ranged_setDrumTarget (ranged_setDrum turned)) givenUp

theorem ranged_runEntered {isa : Nat} (h : Ranged t) : Ranged (runEntered isa t) := by
  unfold runEntered
  exact .ite (ranged_watchDrum (ranged_drumLoop h)) (.ite (ranged_drumLoop h) h)

theorem ranged_fromEngaging {isa : Nat} (h : Ranged t) : Ranged (fromEngaging isa t) := by
  unfold fromEngaging
  refine .ite (ranged_setDrum (ranged_closeOperation h)) ?_
  split
  · exact h
  · exact .ite (ranged_runEntered (ranged_engageEnd h)) h

theorem ranged_fromFreespool {isb : Nat} (h : Ranged t) : Ranged (fromFreespool isb t) := by
  unfold fromFreespool
  exact .ite (ranged_driveSolenoid h) (ranged_setDrum (ranged_offBridgeB h))

theorem ranged_fromBlocked {dir : WinchDir} (h : Ranged t) : Ranged (fromBlocked dir t) := by
  unfold fromBlocked
  exact .ite h (ranged_setDrum h)

theorem ranged_restDrum (h : Ranged t) : Ranged (restDrum t) := by
  unfold restDrum
  exact .ite h (ranged_writeBridgeA h (Nat.zero_le _))

theorem ranged_drumTick {isa isb : Nat} (h : Ranged t) : Ranged (drumTick isa isb t) := by
  unfold drumTick
  split
  · exact ranged_fromBraked (ranged_restDrum h)
  · exact ranged_fromEngaging (ranged_restDrum h)
  · exact ranged_fromRunning h
  · exact ranged_fromRunning h
  · exact ranged_fromBlocked (ranged_restDrum h)
  · exact ranged_fromBlocked (ranged_restDrum h)
  · exact ranged_fromBlocked (ranged_restDrum h)
  · exact ranged_fromFreespool (ranged_restDrum h)
  · exact ranged_restDrum h

theorem answerRanged_controlTick {isa isb : Nat} (h : Ranged s) : AnswerRanged (execControlTick isa isb s) := by
  have read : Ranged (readControl isa isb s) := h
  unfold execControlTick
  exact .ite (.ite (.done (ranged_drumTick read)) (.next (ranged_restDrum read))) (.next h)

theorem ranged_acceptLimits {sw0 sw1 : Option SwitchLevel} (h : Ranged t) : Ranged (acceptLimits sw0 sw1 t) := by
  have accepted {f g : LimitFilter} {n : Nat} {b : Bool} :
      Ranged (t.setWinch { t.winch with filter0 := f, filter1 := g, lineOut := n, referenced := b }) := h
  unfold acceptLimits
  exact .ite (ranged_endOperation accepted) (.ite (ranged_endOperation accepted) accepted)

theorem answerRanged_limitAcceptance {sw0 sw1 : Option SwitchLevel} (h : Ranged s) :
    AnswerRanged (execLimitAcceptance sw0 sw1 s) := by
  have presented {p : Pins} : Ranged (s.setPins p) := h
  unfold execLimitAcceptance
  exact .ite (.done (ranged_acceptLimits presented)) (.next h)

/-! ## The output monitor (spec 10) -/

theorem ranged_setPins {x : Pins} (h : Ranged t) : Ranged (t.setPins x) := h

theorem ranged_setRecord {f : CheckRecord → CheckRecord} (h : Ranged t) : Ranged (setRecord f t) := h

theorem ranged_failA {result : CheckResult} {st : CheckStep} (h : Ranged t) : Ranged (failA result st t) :=
  ranged_completeStep (ranged_withdrawA (ranged_addFault (ranged_setRecord h)))

theorem ranged_restorePrior {st : CheckStep} (h : Ranged t) : Ranged (restorePrior st t) := by
  unfold restorePrior
  exact .ite (.ite h (ranged_raiseEvent h)) h

theorem ranged_failB {result : CheckResult} {st : CheckStep} (h : Ranged t) : Ranged (failB result st t) :=
  ranged_completeStep (ranged_withdrawB (ranged_addFault (ranged_setRecord (ranged_restorePrior h))))

theorem ranged_passA (h : Ranged t) : Ranged (passA t) := ranged_completeStep (ranged_setRecord h)

theorem ranged_passB (h : Ranged t) : Ranged (passB t) := ranged_completeStep (ranged_setRecord h)

theorem answerRanged_supplyTestRetry {vpack : Int} (h : Ranged s) : AnswerRanged (execSupplyTestRetry vpack s) := by
  unfold execSupplyTestRetry
  exact .ite (.ite (.done (ranged_completeStep (ranged_setPins h))) (.next (ranged_setMonitor (ranged_setPins h)))) (.next h)

theorem answerRanged_pullTestEnd {out vpack : Int} (h : Ranged s) : AnswerRanged (execPullTestEnd out vpack s) := by
  have read {p : Pins} : Ranged (s.setPins p) := h
  unfold execPullTestEnd
  split
  · exact .done (.ite (ranged_failA read) (ranged_completeStep read))
  · exact .done (.ite (ranged_failA read) (ranged_completeStep read))
  · exact .done (.ite (ranged_failB read) (ranged_completeStep read))
  · exact .done (.ite (ranged_failB read) (ranged_completeStep read))
  · exact .next h

theorem answerRanged_loadPulseEnd {current : Nat} (h : Ranged s) : AnswerRanged (execLoadPulseEnd current s) := by
  unfold execLoadPulseEnd
  dsimp only
  split
  · exact .ite (.next h) (.done (.ite (ranged_passA h) (ranged_failA h)))
  · exact .ite (.next h) (.done (.ite (ranged_passB h) (ranged_failB h)))
  · exact .next h

theorem answerRanged_loadPulseTrip {current : Nat} (h : Ranged s) : AnswerRanged (execLoadPulseTrip current s) := by
  unfold execLoadPulseTrip
  split
  · exact .ite (.done (ranged_failA h)) (.next h)
  · exact .ite (.done (ranged_failB h)) (.next h)
  · exact .next h

theorem answerRanged_lampPresenceTestEnd {pin vpack : Int} (h : Ranged s) :
    AnswerRanged (execLampPresenceTestEnd pin vpack s) := by
  have absent {l : Lamp} {p : Pins} : Ranged (lampAbsent l (s.setPins p)) :=
    ranged_completeStep (ranged_setMonitor (ranged_setRecord (ranged_setPins h)))
  unfold execLampPresenceTestEnd
  split
  · exact .ite (.next (ranged_beginStep (ranged_setPins h))) (.done absent)
  · exact .next h

theorem answerRanged_lampRatingEnd {mean : Nat} (h : Ranged s) : AnswerRanged (execLampRatingEnd mean s) := by
  unfold execLampRatingEnd
  split
  · exact .done (ranged_completeStep (ranged_setMonitor (ranged_setRecord h)))
  · exact .next h

theorem answerRanged_lampRatingShort {current : Nat} (h : Ranged s) : AnswerRanged (execLampRatingShort current s) := by
  unfold execLampRatingShort
  split
  · exact .ite (.done (ranged_completeStep (ranged_withdrawLamp (ranged_setRecord h)))) (.next h)
  · exact .next h

theorem ranged_judgePair {left right : Nat} (h : Ranged t) : Ranged (judgePair left right t) := by
  have calibrated {s : State} {c : Option Calibration} {b : Bool} {f : CheckRecord → CheckRecord} (h : Ranged s) :
      Ranged (setRecord f (s.setSteer { s.steer with calibration := c, steerLost := b })) := h
  unfold judgePair
  exact .ite (ranged_beginStep (calibrated (.ite (ranged_raiseEvent (ranged_setMonitor h)) (ranged_setMonitor h))))
    (ranged_failB h)

theorem answerRanged_sweepStopFound {pot : Nat} (h : Ranged s) : AnswerRanged (execSweepStopFound pot s) := by
  unfold execSweepStopFound
  dsimp only
  split
  · exact .next (ranged_beginStep (ranged_setMonitor (ranged_setPins h)))
  · exact .done (ranged_judgePair (ranged_setPins h))
  · exact .next h

theorem answerRanged_sweepPhaseTimeout (h : Ranged s) : AnswerRanged (execSweepPhaseTimeout s) := by
  unfold execSweepPhaseTimeout
  split
  · exact .done (ranged_failB h)
  · exact .done (ranged_failB h)
  · exact .next h

theorem answerRanged_sweepFault (h : Ranged s) : AnswerRanged (execSweepFault s) := by
  unfold execSweepFault
  split
  · exact .done (ranged_failB h)
  · exact .next h

theorem answerRanged_sweepReturnEnd (h : Ranged s) : AnswerRanged (execSweepReturnEnd s) := by
  unfold execSweepReturnEnd
  split
  · exact .done (ranged_completeStep (ranged_forceBridgeB h))
  · exact .next h

theorem answerRanged_supplyDip {vpack : Int} (h : Ranged s) : AnswerRanged (execSupplyDip vpack s) := by
  unfold execSupplyDip
  exact .ite (.next (ranged_setMonitor (ranged_restBridges (ranged_setPins h)))) (.next h)

theorem ranged_thermalChange {before : ThermalClass} (h : Ranged t) : Ranged (thermalChange before t) := by
  have acted := ranged_thermalEffects (before := before) h
  unfold thermalChange checkThermal
  split
  · exact acted
  · exact .ite (ranged_setMonitor (ranged_setRecord (ranged_restBridges acted)))
      (.ite (.ite (ranged_completeStep acted) (ranged_beginStep acted)) acted)

theorem ranged_tripB (h : Ranged t) : Ranged (tripB t) := by
  have off {x : Monitor} : Ranged ((offBridgeB t).setMonitor x) := ranged_setMonitor (ranged_offBridgeB h)
  unfold tripB
  exact .ite (ranged_addFault (ranged_withdrawB (.ite (ranged_setDrum off) off)))
    (ranged_addFault (.ite (ranged_setDrum off) off))

theorem answerRanged_bridgeBTrip {current : Nat} (h : Ranged s) : AnswerRanged (execBridgeBTrip current s) := by
  unfold execBridgeBTrip
  exact .ite (.done (ranged_tripB h)) (.next h)

theorem ranged_readSensor {x : Sensor} {reading : Int} (h : Ranged t) : Ranged (readSensor x reading t) := by
  unfold readSensor
  exact .ite (.ite (ranged_setSensor h) (.ite (ranged_failSensor h) (ranged_setSensor h))) (ranged_setSensor h)

theorem answerRanged_temperatureReading {ts1 die : Int} (h : Ranged s) : AnswerRanged (execTemperatureReading ts1 die s) :=
  .done (ranged_thermalChange (ranged_setMonitor (ranged_readSensor (ranged_readSensor (ranged_setPins h)))))

theorem answerRanged_thermalSensorFault {x : Sensor} {reading : Int} (h : Ranged s) :
    AnswerRanged (execThermalSensorFault x reading s) := by
  unfold execThermalSensorFault
  exact .ite (.done (ranged_thermalChange (ranged_failSensor h))) (.next h)

/-! ## Every command, and the step -/

theorem answerRanged_exec (c : Instr) (h : Ranged s) : AnswerRanged (exec c s) := by
  cases c with
  | powerOnReset => exact .next ranged_reset
  | busIdle => exact .next h
  | frameReceived bytes => exact answerRanged_frameReceived h
  | receptionFailed how => exact answerRanged_receptionFailed h
  | breakRecognised => exact answerRanged_breakRecognised h
  | attemptStart => exact answerRanged_attemptStart h
  | arbitrationLost => exact answerRanged_arbitrationLost h
  | lineFault => exact answerRanged_lineFault h
  | collision => exact answerRanged_collision h
  | backoffExpiry kind => exact .next h
  | attemptComplete => exact answerRanged_attemptComplete h
  | breakEnd => exact .next h
  | strapReadSuccess p => exact answerRanged_strapReadSuccess h
  | strapReadFail last => exact answerRanged_strapReadFail h
  | silenceTimerExpiry => exact answerRanged_silenceTimerExpiry h
  | defaultTimerExpiry => exact answerRanged_defaultTimerExpiry h
  | config => exact answerRanged_config h
  | assign => exact answerRanged_assign h
  | ownStationFrame => exact answerRanged_ownStationFrame h
  | conflictNoticeTimer => exact .next (.ite (ranged_placeNotice h) h)
  | uptimeTick => exact .next h
  | reportTimerExpiry => exact .next (.ite (ranged_placeReport h) h)
  | heldEventSpacingExpiry => exact .next (.ite (ranged_placeReport h) h)
  | report => exact answerRanged_report h
  | peerLost station => exact answerRanged_peerLost h
  | winch => exact answerRanged_winch h
  | winchLinkExpiry => exact .next h
  | checkRecord => exact answerRanged_answerOk h
  | fault => exact answerRanged_fault h
  | winchLog => exact answerRanged_winchLog h
  | counters => exact answerRanged_answerOk h
  | image => exact answerRanged_answerOk h
  | budget => exact answerRanged_answerOk h
  | restart => exact answerRanged_restart h
  | recheck => exact answerRanged_recheck h
  | queryUnknownCode => exact answerRanged_queryUnknownCode h
  | command => exact answerRanged_command h
  | linkExpiry => exact answerRanged_linkExpiry h
  | failsafeStage2 => exact answerRanged_failsafeStage2 h
  | budgetTick r => exact answerRanged_budgetTick h
  | peerCutoffTest => exact answerRanged_peerCutoffTest h
  | actuatorTick pot isb => exact answerRanged_actuatorTick h
  | steerStall => exact answerRanged_steerStall h
  | stallLimitEnd => exact .next h
  | steerSensorLost pot => exact answerRanged_steerSensorLost h
  | driveTick isa => exact answerRanged_driveTick h
  | encoderEdge dir interval => exact answerRanged_encoderEdge h
  | encoderEdgeTimeout => exact .next (.ite h h)
  | encoderLost => exact .ite (.done (ranged_loseEncoder h)) (.next h)
  | encoderRecovered => exact .next (.ite (ranged_recoverEncoder h) h)
  | overcurrentTrip current => exact answerRanged_overcurrentTrip h
  | tripWaitEnd => exact .next h
  | controlTick isa isb => exact answerRanged_controlTick h
  | limitAcceptance sw0 sw1 => exact answerRanged_limitAcceptance h
  | engageDelayEnd => exact .ite (.done (ranged_engageEnd h)) (.next h)
  | winchStall => exact .ite (.done (ranged_endOperation h)) (.next h)
  | winchTimerExpiry => exact .next (.ite (ranged_placeWinch h) h)
  | beatEvent => exact .next (.ite (ranged_beatStep h) h)
  | beatTaken => exact answerRanged_beatTaken h
  | lampShort l current => exact .ite (.done (ranged_withdrawLamp h)) (.next h)
  | supplyTestRetry vpack => exact answerRanged_supplyTestRetry h
  | pullTestEnd out vpack => exact answerRanged_pullTestEnd h
  | loadPulseEnd current => exact answerRanged_loadPulseEnd h
  | loadPulseTrip current => exact answerRanged_loadPulseTrip h
  | lampPresenceTestEnd pin vpack => exact answerRanged_lampPresenceTestEnd h
  | lampRatingEnd mean => exact answerRanged_lampRatingEnd h
  | lampRatingShort current => exact answerRanged_lampRatingShort h
  | sweepStopFound pot => exact answerRanged_sweepStopFound h
  | sweepPhaseTimeout => exact answerRanged_sweepPhaseTimeout h
  | sweepFault => exact answerRanged_sweepFault h
  | sweepReturnEnd => exact answerRanged_sweepReturnEnd h
  | supplyDip vpack => exact answerRanged_supplyDip h
  | bridgeBTrip current => exact answerRanged_bridgeBTrip h
  | bridgeBTripWaitEnd => exact .next h
  | temperatureReading ts1 die => exact answerRanged_temperatureReading h
  | thermalSensorFault x reading => exact answerRanged_thermalSensorFault h
  | frameStart => exact .next h
  | pwmPeriodBoundary => exact answerRanged_pwmPeriodBoundary h

/-- A millisecond moves timers and samples alone (log 1). -/
theorem ranged_clockTick (h : Ranged t) : Ranged (clockTick t) := h

theorem ranged_step (h : Ranged s) (run : step s = .next t) : Ranged t := by
  unfold step at run
  split at run
  · cases run
    exact ranged_clockTick h
  next c rest _ =>
    have waiting : Ranged (s.setPending rest) := h
    exact answerRanged_exec c waiting t run

/-- Settles O12: every step keeps the record, the duties, the ceilings and the integrators in range, command by command. -/
theorem stepKeepsDutiesAndCommands : Obligations.StepKeepsDutiesAndCommands := fun _ _ commands duties run =>
  ranged_iff.1 (ranged_step (ranged_iff.2 ⟨commands, duties⟩) run)

end Sys2Proof.CommandIntake
end

section
/-! SUPPORT and THEOREM. The lost link (R67 to R70): the entry to FAILSAFE, on the winch position with its drum, and stage 2. -/

namespace Sys2Proof.CommandIntake

open Sys2Proof Sys2Proof.Machine Sys2Proof.Safety
open Sys2Proof.NodeControl

variable {s t u : State}

/-! ## Events (R43) -/

theorem raiseEvent_due {e : ReportEvent} (selected : eventSelected s e = true) (reports : reportsNow s = true) :
    (raiseEvent e s).node.eventDue = true := by
  unfold raiseEvent
  rw [selected, reports]
  rfl

/-- An event due stays due until the step ends. -/
theorem raiseEvent_still_due {e : ReportEvent} (due : s.node.eventDue = true) : (raiseEvent e s).node.eventDue = true := by
  rcases raiseEvent_cases e s with same | marked
  · rwa [same]
  · rw [marked]
    rfl

theorem placeReport_sequence (s : State) : (placeReport s).node.sequence = (s.node.sequence + 1) % 16 := by
  unfold placeReport
  rw [placeFrame_frame]
  rfl

/-- A due event places a REPORT, or is held within 5 ms of the last one. -/
theorem settle_due (due : s.node.eventDue = true) :
    (settle s).node.sequence = (s.node.sequence + 1) % 16 ∨ (settle s).node.heldEvent = true := by
  by_cases spaced : ∀ ms, s.node.sinceReport = some ms → 5 ≤ ms
  · left
    rw [settle_report s due spaced, placeReport_sequence]
    rfl
  · right
    push Not at spaced
    obtain ⟨ms, since, soon⟩ := spaced
    rw [settle_held s ms due since soon]
    rfl

/-! ## The drum released (R162) -/

/-- All that closing an operation changes. -/
theorem closeOperation_eq (reason : EndReason) (s : State) :
    ∃ log, closeOperation reason s = { s with winch := { s.winch with op := none, log } } := by
  rcases closeOperation_cases reason s with ⟨none, same⟩ | ⟨r, _, closed⟩
  · exact ⟨s.winch.log, by rw [same, ← none]⟩
  · exact ⟨_, closed⟩

/-- A change of the drum state places a WINCH frame on the winch position in SAFE, RUN and FAILSAFE (R164). -/
theorem setDrum_of_ne {d : DrumState} (changes : s.winch.drum ≠ d) : setDrum d s = raiseEvent .drumChange
    (if isServing s.node.state && roleOf s = .winch then placeWinch (s.setWinch (drumChanged d s.winch))
      else s.setWinch (drumChanged d s.winch)) := if_neg changes

theorem raiseEvent_winch (e : ReportEvent) (s : State) : (raiseEvent e s).winch = s.winch := by
  rw [raiseEvent_frame]
  rfl

theorem placeWinch_winch (s : State) : (placeWinch s).winch = { s.winch with winchTimer := some 0 } := by
  unfold placeWinch
  rw [placeFrame_frame]
  rfl

theorem setDrum_drum (d : DrumState) (s : State) : (setDrum d s).winch.drum = d := by
  by_cases same : s.winch.drum = d
  · rw [← same, setDrum_same]
  · rw [setDrum_of_ne same, raiseEvent_winch]
    split
    · rw [placeWinch_winch]
      rfl
    · rfl

theorem setDrum_op (d : DrumState) (s : State) : (setDrum d s).winch.op = s.winch.op := by
  rcases setDrum_cases d s with same | placed | unplaced
  · rw [same]
  · rw [placed, raiseEvent_winch, placeWinch_winch]
    rfl
  · rw [unplaced, raiseEvent_winch]
    rfl

/-- On the winch position an operation ends, bridge B goes OFF, and the drum enters BRAKED unless it is withdrawn. -/
theorem releaseDrum_eq (reason : EndReason) (winch : roleOf s = .winch) : releaseDrum reason s =
    if s.winch.drum = .withdrawn then offBridgeB (closeOperation reason s)
    else setDrum .braked (offBridgeB (closeOperation reason s)) := by
  have drum : (offBridgeB (closeOperation reason s)).winch.drum = s.winch.drum := by
    obtain ⟨log, closed⟩ := closeOperation_eq reason s
    rw [closed]
    rfl
  unfold releaseDrum
  rw [if_pos winch, ← drum]

theorem releaseDrum_drum (reason : EndReason) (winch : roleOf s = .winch) :
    (releaseDrum reason s).winch.drum = if s.winch.drum = .withdrawn then .withdrawn else .braked := by
  obtain ⟨log, closed⟩ := closeOperation_eq reason s
  rw [releaseDrum_eq reason winch, closed]
  split
  next withdrawn => exact withdrawn
  next => exact setDrum_drum _ _

theorem releaseDrum_op (reason : EndReason) (winch : roleOf s = .winch) : (releaseDrum reason s).winch.op = none := by
  obtain ⟨log, closed⟩ := closeOperation_eq reason s
  rw [releaseDrum_eq reason winch, closed]
  split
  · rfl
  · rw [setDrum_op]
    rfl

/-! ## How a change of the drum is shown (R43, R164) -/

/-- What `DrumShown` asks of a step before its events are settled. -/
def DrumMarked (s t : State) : Prop :=
  if t.winch.drum = s.winch.drum then t.bus.slots.winch = s.bus.slots.winch ∧ t.winch.winchTimer = s.winch.winchTimer
  else
    t.winch.winchTimer = some 0 ∧
    (∀ n ∈ stationOf s, t.bus.slots.winch =
      (s.bus.slots.winch.place (decide (lineKind s = some .winch)) { sender := n, payload := winchPayload t }).1) ∧
    (eventSelected s .drumChange = true → reportsNow s = true → t.node.eventDue = true)

theorem DrumMarked.of_stays (drum : t.winch.drum = s.winch.drum) (slot : t.bus.slots.winch = s.bus.slots.winch)
    (timer : t.winch.winchTimer = s.winch.winchTimer) : DrumMarked s t := by
  unfold DrumMarked
  rw [if_pos drum]
  exact ⟨slot, timer⟩

/-- A placed WINCH frame carries the state as it stands after the placement. -/
theorem placeWinch_slot {n : Nat} (station : stationOf s = some n) : (placeWinch s).bus.slots.winch =
    (s.bus.slots.winch.place (decide (lineKind s = some .winch)) { sender := n, payload := winchPayload (placeWinch s) }).1 := by
  have payload : winchPayload (placeWinch s) = winchPayload s := by
    unfold placeWinch
    rw [placeFrame_frame]
    rfl
  rw [payload]
  exact congrArg Slots.winch (placeFrame_slot .winch (winchPayload s) s n station)

theorem drumMarked_setDrum (d : DrumState) (serving : isServing s.node.state = true) (winch : roleOf s = .winch) :
    DrumMarked s (setDrum d s) := by
  by_cases same : s.winch.drum = d
  · rw [← same, setDrum_same]
    exact .of_stays rfl rfl rfl
  · have placed : setDrum d s = raiseEvent .drumChange (placeWinch (s.setWinch (drumChanged d s.winch))) := by
      rw [setDrum_of_ne same, if_pos (by simp [serving, winch])]
    have selected : eventSelected (placeWinch (s.setWinch (drumChanged d s.winch))) .drumChange = eventSelected s .drumChange := by
      rw [sameButDrum_placeWinch (s.setWinch (drumChanged d s.winch))]
      rfl
    have reports : reportsNow (placeWinch (s.setWinch (drumChanged d s.winch))) = reportsNow s := by
      rw [sameButDrum_placeWinch (s.setWinch (drumChanged d s.winch))]
      rfl
    unfold DrumMarked
    rw [setDrum_drum, if_neg (Ne.symm same), placed]
    refine ⟨?_, fun n station => ?_, fun e r => raiseEvent_due (selected.trans e) (reports.trans r)⟩
    · rw [raiseEvent_winch, placeWinch_winch]
    · rw [raiseEvent_frame]
      exact placeWinch_slot station

/-- An end that shows the drum alike, with any event still due. -/
theorem DrumMarked.of_end (h : DrumMarked s t) (winch : u.winch = t.winch) (slot : u.bus.slots.winch = t.bus.slots.winch)
    (payload : winchPayload u = winchPayload t) (due : t.node.eventDue = true → u.node.eventDue = true) : DrumMarked s u := by
  unfold DrumMarked at h ⊢
  rw [winch, slot, payload]
  split at h
  next same =>
    rw [if_pos same]
    exact h
  next changed =>
    obtain ⟨timer, placed, marked⟩ := h
    rw [if_neg changed]
    exact ⟨timer, placed, fun e r => due (marked e r)⟩

/-- A further event changes nothing of what is shown. -/
theorem DrumMarked.raiseEvent {e : ReportEvent} (h : DrumMarked s t) : DrumMarked s (raiseEvent e t) := by
  refine h.of_end (raiseEvent_winch e t) ?_ ?_ raiseEvent_still_due
  all_goals
    rw [raiseEvent_frame]
    rfl

/-- A start that reads alike to the WINCH frame and the event. -/
theorem DrumMarked.of_start (h : DrumMarked u t) (bus : u.bus = s.bus) (drum : u.winch.drum = s.winch.drum)
    (timer : u.winch.winchTimer = s.winch.winchTimer) (position : u.node.position = s.node.position)
    (image : u.node.image = s.node.image) (reports : reportsNow s = true → reportsNow u = true) : DrumMarked s t := by
  have station : stationOf u = stationOf s := congrArg (Option.map posCode) position
  have line : lineKind u = lineKind s := congrArg (fun b => b.tx.attempt.map Attempt.kind) bus
  have selected : eventSelected u .drumChange = eventSelected s .drumChange := by simp only [eventSelected, image]
  unfold DrumMarked at h ⊢
  rw [drum, bus, timer, station, line, selected] at h
  split at h
  next same =>
    rw [if_pos same]
    exact h
  next changed =>
    obtain ⟨timer, placed, marked⟩ := h
    rw [if_neg changed]
    exact ⟨timer, placed, fun e r => marked e (reports r)⟩

theorem DrumMarked.settle (h : DrumMarked s t) (sequence : t.node.sequence = s.node.sequence) : DrumShown s (settle t) := by
  have drum : (Machine.settle t).winch = t.winch := by rw [sameButReport_settle t]
  have slot : (Machine.settle t).bus.slots.winch = t.bus.slots.winch := by rw [sameButReport_settle t]
  have payload : winchPayload (Machine.settle t) = winchPayload t := by
    rw [sameButReport_settle t]
    rfl
  unfold DrumMarked at h
  unfold DrumShown
  rw [drum, slot, payload]
  split at h
  next same =>
    rw [if_pos same]
    exact h
  next changed =>
    obtain ⟨timer, placed, marked⟩ := h
    rw [if_neg changed]
    exact ⟨timer, placed, fun e r => sequence ▸ settle_due (marked e r)⟩

theorem drumMarked_releaseDrum (reason : EndReason) (serving : isServing s.node.state = true) (winch : roleOf s = .winch) :
    DrumMarked s (releaseDrum reason s) := by
  obtain ⟨log, closed⟩ := closeOperation_eq reason s
  rw [releaseDrum_eq reason winch, closed]
  split
  · exact .of_stays rfl rfl rfl
  · exact .of_start (drumMarked_setDrum .braked (by exact serving) (by exact winch)) rfl rfl rfl rfl rfl id

/-! ## The entry to FAILSAFE (R68, R69) -/

/-- The node in FAILSAFE at stage 1, the drum apart. -/
def failsafeEntered (s : State) : State :=
  { s with
    intake := { s.intake with bound := none, stage := .one }
    steer := { s.steer with lossCount := 0 }
    node := { s.node with
      state := .failsafe, staging := [], silenceTimer := none, defaultTimer := none, armWait := false } }

theorem enterFailsafe_eq (s : State) : enterFailsafe s = raiseEvent .failsafeEntry
    (if roleOf s = .winch then releaseDrum .failsafe (brakeBridgeA (failsafeEntered s)) else failsafeEntered s) := by
  unfold enterFailsafe
  rw [moveTo_eq]
  rfl

/-- On the winch position the drum is released and bridge A braked (R162). -/
theorem enterFailsafe_winch (winch : roleOf s = .winch) :
    enterFailsafe s = raiseEvent .failsafeEntry (releaseDrum .failsafe (brakeBridgeA (failsafeEntered s))) := by
  rw [enterFailsafe_eq, if_pos winch]

theorem enterFailsafe_other (other : roleOf s ≠ .winch) :
    enterFailsafe s = raiseEvent .failsafeEntry (failsafeEntered s) := by
  rw [enterFailsafe_eq, if_neg other]

/-- All that the entry changes on the winch position, the drum apart. -/
theorem enterFailsafe_changes (winch : roleOf s = .winch) :
    SameButDrum (offBridgeB (brakeBridgeA (failsafeEntered s))) (enterFailsafe s) := by
  rw [enterFailsafe_winch winch]
  exact (releaseDrum_of_winch (s := brakeBridgeA (failsafeEntered s)) .failsafe winch).trans (sameButDrum_raiseEvent _ _)

/-- Of the node nothing else changes than the entry says, but for events that fall due. -/
theorem enterFailsafe_node (s : State) :
    (enterFailsafe s).node = { (failsafeEntered s).node with eventDue := (enterFailsafe s).node.eventDue } := by
  by_cases winch : roleOf s = .winch
  · have changes := enterFailsafe_changes winch
    unfold SameButDrum at changes
    rw [changes]
    rfl
  · rw [enterFailsafe_other winch, raiseEvent_frame]
    rfl

/-- The entry raises its event (R43). -/
theorem enterFailsafe_due (selected : eventSelected s .failsafeEntry = true) (placed : s.node.position ≠ none) :
    (enterFailsafe s).node.eventDue = true := by
  have due {x : State} (node : x.node = { (failsafeEntered s).node with eventDue := x.node.eventDue }) :
      (raiseEvent .failsafeEntry x).node.eventDue = true := by
    refine raiseEvent_due ?_ ?_
    · rw [← selected]
      unfold eventSelected
      rw [node]
      rfl
    · unfold reportsNow
      rw [node]
      simpa [failsafeEntered] using Option.isSome_iff_ne_none.2 placed
  by_cases winch : roleOf s = .winch
  · have released := releaseDrum_of_winch (s := brakeBridgeA (failsafeEntered s)) .failsafe winch
    unfold SameButDrum at released
    rw [enterFailsafe_winch winch]
    refine due ?_
    rw [released]
    rfl
  · rw [enterFailsafe_other winch]
    exact due rfl

/-- The entry at the end of its step. -/
def inFailsafe (s : State) : State := settle (enterFailsafe s)

theorem inFailsafe_report (s : State) : SameButReport (enterFailsafe s) (inFailsafe s) := sameButReport_settle _

theorem inFailsafe_entry (s : State) : SameButEntry s (inFailsafe s) := by
  refine sameButEntry_trans ?_ (sameButEntry_of_report (inFailsafe_report s))
  by_cases winch : roleOf s = .winch
  · have stopped : SameButEntry s (offBridgeB (brakeBridgeA (failsafeEntered s))) := rfl
    exact sameButEntry_trans stopped (sameButEntry_of_drum (enterFailsafe_changes winch))
  · rw [enterFailsafe_other winch, raiseEvent_frame]
    rfl

theorem inFailsafe_event (selected : eventSelected s .failsafeEntry = true) (placed : s.node.position ≠ none) :
    (inFailsafe s).node.sequence = (s.node.sequence + 1) % 16 ∨ (inFailsafe s).node.heldEvent = true := by
  have sequence : (enterFailsafe s).node.sequence = s.node.sequence := by
    rw [enterFailsafe_node]
    rfl
  exact sequence ▸ settle_due (enterFailsafe_due selected placed)

/-- Away from the winch position the outputs are left to the units' own ticks (R69). -/
theorem inFailsafe_other (other : roleOf s ≠ .winch) : SameButReport (failsafeEntered s) (inFailsafe s) := by
  have entered : SameButReport (failsafeEntered s) (enterFailsafe s) := by
    rw [enterFailsafe_other other, raiseEvent_frame]
    rfl
  exact sameButReport_trans entered (inFailsafe_report s)

/-- The blocks that no role changes at the entry. -/
theorem inFailsafe_blocks (s : State) : (inFailsafe s).node.state = .failsafe ∧
    (inFailsafe s).monitor.faults = s.monitor.faults ∧
    (inFailsafe s).intake = { s.intake with bound := none, stage := .one } := by
  have entered : (enterFailsafe s).node.state = .failsafe ∧ (enterFailsafe s).monitor.faults = s.monitor.faults ∧
      (enterFailsafe s).intake = { s.intake with bound := none, stage := .one } := by
    refine ⟨enterFailsafe_state s, ?_⟩
    by_cases winch : roleOf s = .winch
    · have changes := enterFailsafe_changes winch
      unfold SameButDrum at changes
      rw [changes]
      exact ⟨rfl, rfl⟩
    · rw [enterFailsafe_other winch, raiseEvent_frame]
      exact ⟨rfl, rfl⟩
  rw [inFailsafe_report s]
  exact entered

/-- On the winch position the drum is braked with its operation ended, bridge A braked and bridge B OFF, in a trip wait too
(R162, log 18). -/
theorem inFailsafe_winch (winch : roleOf s = .winch) (run : s.node.state = .run) :
    let t := inFailsafe s
    t.winch.drum = (if s.winch.drum = .withdrawn then .withdrawn else .braked) ∧ t.winch.op = none ∧
    t.winch.log = (if s.winch.drum = .haulIn ∨ s.winch.drum = .payOut then endedLog s.winch.op .failsafe s
      else s.winch.log) ∧
    t.bridgeB.active = ⟨.off, 0⟩ ∧ t.bridgeB.next = ⟨.off, 0⟩ ∧ BrakedAtOnce s t ∧
    t.drive.tripWait = s.drive.tripWait ∧ DrumShown s t := by
  have stillWinch : roleOf (brakeBridgeA (failsafeEntered s)) = .winch := winch
  have unit : (inFailsafe s).winch = (releaseDrum .failsafe (brakeBridgeA (failsafeEntered s))).winch := by
    have settled : (inFailsafe s).winch = (enterFailsafe s).winch := by rw [inFailsafe_report s]
    rw [settled, enterFailsafe_winch winch, raiseEvent_winch]
  have changes := enterFailsafe_changes winch
  have mode : safeModeA (failsafeEntered s) = safeModeA s := by
    simp [safeModeA, failsafeEntered, run, roleOf]
  have outputs : (inFailsafe s).bridgeA = s.bridgeA.force (safeModeA s) 0 ∧
      (inFailsafe s).bridgeB = s.bridgeB.force .off 0 ∧
      (inFailsafe s).drive = { s.drive with ramped := 0, integrator := 0 } := by
    rw [inFailsafe_report s, ← mode]
    unfold SameButDrum at changes
    rw [changes]
    exact ⟨rfl, rfl, rfl⟩
  obtain ⟨bridgeA, bridgeB, drive⟩ := outputs
  have shown : DrumShown s (inFailsafe s) := by
    refine DrumMarked.settle ?_ (by rw [enterFailsafe_node]; rfl)
    rw [enterFailsafe_winch winch]
    refine .raiseEvent (.of_start (drumMarked_releaseDrum .failsafe (by exact rfl) stillWinch) rfl rfl rfl rfl rfl ?_)
    simp only [reportsNow, run]
    exact id
  refine ⟨?_, ?_, ?_, ?_, ?_, ?_, ?_, shown⟩
  · rw [unit]
    exact releaseDrum_drum .failsafe stillWinch
  · rw [unit]
    exact releaseDrum_op .failsafe stillWinch
  · rw [unit, releaseDrum_log, stillWinch]
    simp only [true_and]
    rfl
  · rw [bridgeB]
    rfl
  · rw [bridgeB]
    rfl
  · exact ⟨by rw [bridgeA]; rfl, by rw [bridgeA]; rfl, by rw [drive], by rw [drive]⟩
  · rw [drive]

/-! ## LINK_EXPIRY (R67, R68, R74) -/

/-- The intake is bound and its link age has reached failsafe_timeout. -/
def LinkLost (s : State) : Prop :=
  s.intake.bound ≠ none ∧ linkAgeReached (fieldsOf s).drive.failsafeTimeout s = true

theorem linkLost_iff : LinkLost s ↔
    (s.intake.bound.isSome && linkAgeReached (fieldsOf s).drive.failsafeTimeout s) = true := by
  simp [LinkLost, Option.isSome_iff_ne_none]

theorem linkExpiry_idle (kept : ¬ LinkLost s) : exec .linkExpiry s = .next s :=
  if_neg (linkLost_iff.not.1 kept)

theorem linkExpiry_safe (lost : LinkLost s) (safe : s.node.state = .safe) :
    exec .linkExpiry s = .next { s with intake := { s.intake with bound := none, linkAge := none } } := by
  simp only [exec, execLinkExpiry, if_pos (linkLost_iff.1 lost), safe]
  rfl

theorem linkExpiry_failsafe (lost : LinkLost s) (failsafe : s.node.state = .failsafe) :
    exec .linkExpiry s = .next { s with intake := { s.intake with bound := none } } := by
  simp only [exec, execLinkExpiry, if_pos (linkLost_iff.1 lost), failsafe]
  rfl

theorem linkExpiry_run (lost : LinkLost s) (run : s.node.state = .run) : exec .linkExpiry s = .next (inFailsafe s) := by
  have unbound : enterFailsafe (s.setIntake { s.intake with bound := none }) = enterFailsafe s := by
    rw [enterFailsafe_eq, enterFailsafe_eq]
    rfl
  simp only [exec, execLinkExpiry, if_pos (linkLost_iff.1 lost), run]
  rw [unbound]
  rfl

theorem linkExpiry_elsewhere (lost : LinkLost s) (elsewhere : isServing s.node.state = false) :
    exec .linkExpiry s = .next s := by
  simp only [exec, execLinkExpiry, if_pos (linkLost_iff.1 lost)]
  cases state : s.node.state
  case safe =>
    rw [state] at elsewhere
    cases elsewhere
  case run =>
    rw [state] at elsewhere
    cases elsewhere
  case failsafe =>
    rw [state] at elsewhere
    cases elsewhere
  all_goals rfl

/-! ## FAILSAFE_STAGE_2 (R70) -/

theorem failsafeStage2_acts (due : s.node.state = .failsafe ∧ s.intake.stage = .one ∧ linkAgeReached (stage2Age s) s = true) :
    exec .failsafeStage2 s = .next { s with
      intake := { s.intake with stage := .two }, steer := { s.steer with loop := false }
      bridgeB := s.bridgeB.force .off 0 } := if_pos due

theorem failsafeStage2_idle
    (none : ¬ (s.node.state = .failsafe ∧ s.intake.stage = .one ∧ linkAgeReached (stage2Age s) s = true)) :
    exec .failsafeStage2 s = .next s := if_neg none

/-- Settles O38, state by state: in RUN the entry to FAILSAFE by the role, elsewhere the binding alone. -/
theorem lostLinkBringsFailsafe : Obligations.LostLinkBringsFailsafe := by
  refine ⟨fun s => ?_, fun s => ?_⟩
  · by_cases lost : LinkLost s
    · have acts : ¬ (s.intake.bound = none ∨ ¬ linkAgeReached (fieldsOf s).drive.failsafeTimeout s = true) :=
        fun h => h.elim lost.1 fun young => young lost.2
      cases state : s.node.state with
      | safe => exact ⟨_, linkExpiry_safe lost state, rfl, (if_neg acts).mpr rfl⟩
      | failsafe => exact ⟨_, linkExpiry_failsafe lost state, rfl, (if_neg acts).mpr rfl⟩
      | run =>
        obtain ⟨entered, faults, intake⟩ := inFailsafe_blocks s
        refine ⟨_, linkExpiry_run lost state, inFailsafe_entry s, (if_neg acts).mpr ⟨entered, faults, intake,
          inFailsafe_event, ?_⟩⟩
        split
        next winch => exact inFailsafe_winch winch state
        next other =>
          rw [intake]
          exact inFailsafe_other other
      | strap => exact ⟨_, linkExpiry_elsewhere lost (by rw [state]; rfl), rfl, (if_neg acts).mpr rfl⟩
      | listen => exact ⟨_, linkExpiry_elsewhere lost (by rw [state]; rfl), rfl, (if_neg acts).mpr rfl⟩
      | check => exact ⟨_, linkExpiry_elsewhere lost (by rw [state]; rfl), rfl, (if_neg acts).mpr rfl⟩
      | cutoff => exact ⟨_, linkExpiry_elsewhere lost (by rw [state]; rfl), rfl, (if_neg acts).mpr rfl⟩
      | conflict => exact ⟨_, linkExpiry_elsewhere lost (by rw [state]; rfl), rfl, (if_neg acts).mpr rfl⟩
    · have idle : s.intake.bound = none ∨ ¬ linkAgeReached (fieldsOf s).drive.failsafeTimeout s = true := by
        rwa [LinkLost, not_and_or, not_not] at lost
      exact ⟨s, linkExpiry_idle lost, rfl, (if_pos idle).mpr rfl⟩
  · by_cases due : s.node.state = .failsafe ∧ s.intake.stage = .one ∧ linkAgeReached (stage2Age s) s = true
    · exact ⟨_, failsafeStage2_acts due, (if_pos due).mpr ⟨rfl, rfl, rfl⟩⟩
    · exact ⟨s, failsafeStage2_idle due, (if_neg due).mpr rfl⟩

end Sys2Proof.CommandIntake
end

section
/-! SUPPORT and THEOREM. The intake of a COMMAND (R61 to R66, R72, R73): what the steering unit takes of an offered one, and what
each judgement leaves. -/

namespace Sys2Proof.CommandIntake

open Sys2Proof Sys2Proof.Machine Sys2Proof.Safety
open Sys2Proof.NodeControl

variable {s t u : State} {r : CommandRecord} {c : CommandFrame} {sender : Nat}

/-! ## The offered command (R107, R108, R122) -/

/-- The active and the pending mode (R108). -/
def offeredModes (s : State) (r : CommandRecord) : SteerMode × Option SteerMode :=
  settleModes s.steer.mode r.steerMode r.steer

/-- The geometry result: straight on a node that is no corner (R107, R109). -/
def offeredGeometry (s : State) (r : CommandRecord) : Geometry :=
  let plain : Geometry :=
    { mode := (offeredModes s r).1, straight := true, target := 0, side := .none, q := 1000, indicator := indicatorOf r.steer }
  match s.node.image, s.node.position with
  | some i, some p => if isCorner p then geometryOf i.fields p (offeredModes s r).1 r.steer (indicatorOf r.steer) else plain
  | _, _ => plain

/-- The steering unit once it has taken an offered record in SAFE, RUN or FAILSAFE. -/
def offeredSteer (s : State) (r : CommandRecord) : Steer :=
  let centred := (axleOf s).isSome && mateSteerLost s
  { s.steer with
    mode := (offeredModes s r).1, pendingMode := (offeredModes s r).2, geometry := offeredGeometry s r, centered := centred
    presented := if centred then 0 else (offeredGeometry s r).target }

theorem offerCommand_eq (serving : isServing s.node.state = true) :
    offerCommand s = { s with steer := offeredSteer s s.intake.record } := by
  have centres (x : Steer) : centring (s.setSteer x) = ((axleOf s).isSome && mateSteerLost s) := by
    show (isServing s.node.state && (axleOf s).isSome && mateSteerLost s) = _
    rw [serving, Bool.true_and]
  unfold offerCommand presentTarget
  simp only [centres]
  rfl

/-! ## The judgement (R29, R65, R72, R73) -/

/-- The state once a new command's values, its marker and its binding are held (R62, R63, R67). -/
def commandHeld (sender : Nat) (c : CommandFrame) (s : State) : State :=
  { popQueue s with
    intake := { s.intake with
      bound := some sender, record := takenRecord s.intake.record c, marker := some (sender, c.sequence), linkAge := some 0 } }

/-- The record is neutral for the node (R66). -/
abbrev Neutral (s : State) (r : CommandRecord) : Prop :=
  r.throttle.natAbs < (fieldsOf s).drive.throttleDeadband ∧ r.lever.natAbs < 100

theorem isNeutral_iff : isNeutral (fieldsOf s).drive.throttleDeadband r = true ↔ Neutral s r := by
  simp [isNeutral, Neutral]

/-- The record brings RUN: neutral, from FAILSAFE, or from SAFE at an effective level other than CUTOFF (R29, R72, R73). -/
abbrev Arms (s : State) (r : CommandRecord) : Prop :=
  Neutral s r ∧ (s.node.state = .failsafe ∨ (s.node.state = .safe ∧ effectiveLevel s ≠ .cutoff))

/-- All that the entry to RUN changes (R29, R73). -/
theorem enterRun_eq (s : State) : enterRun s = { s with
    intake := { s.intake with stage := .none }, steer := { s.steer with lossCount := 0 }
    drive := { s.drive with ramped := 0, integrator := 0 }
    node := { s.node with
      state := .run, staging := [], silenceTimer := none, defaultTimer := none, armWait := false } } := by
  unfold enterRun
  rw [moveTo_eq]
  rfl

theorem judgeCommand_arms (arms : Arms s s.intake.record) : judgeCommand s = offerCommand (enterRun s) := by
  obtain ⟨neutral, failsafe | ⟨safe, level⟩⟩ := arms
  · simp only [judgeCommand, failsafe, if_pos (isNeutral_iff.2 neutral)]
  · simp only [judgeCommand, safe, if_pos (isNeutral_iff.2 neutral), if_neg level]

theorem judgeCommand_failsafe (failsafe : s.node.state = .failsafe) (driven : ¬ Neutral s s.intake.record) :
    judgeCommand s = s := by
  simp only [judgeCommand, failsafe, if_neg (isNeutral_iff.not.2 driven)]

theorem judgeCommand_run (run : s.node.state = .run) : judgeCommand s = offerCommand s := by
  simp only [judgeCommand, run]

theorem judgeCommand_cutoff (safe : s.node.state = .safe) (neutral : Neutral s s.intake.record)
    (level : effectiveLevel s = .cutoff) : judgeCommand s = offerCommand s := by
  simp only [judgeCommand, safe, if_pos (isNeutral_iff.2 neutral), if_pos level]

theorem judgeCommand_waits (safe : s.node.state = .safe) (driven : ¬ Neutral s s.intake.record) :
    judgeCommand s = offerCommand (s.setNode { s.node with armWait := true }) := by
  simp only [judgeCommand, safe, if_neg (isNeutral_iff.not.2 driven)]

/-- ARM_WAIT stands as it is, except that a non-neutral record in SAFE sets it (R29). -/
abbrev waitsWith (s : State) (r : CommandRecord) : Bool :=
  s.node.armWait || decide (s.node.state = .safe ∧ ¬ Neutral s r)

theorem waitsWith_same (still : ¬ (s.node.state = .safe ∧ ¬ Neutral s r)) : waitsWith s r = s.node.armWait := by
  rw [waitsWith, decide_eq_false still, Bool.or_false]

theorem waitsWith_set (safe : s.node.state = .safe) (driven : ¬ Neutral s r) : waitsWith s r = true := by
  rw [waitsWith, decide_eq_true ⟨safe, driven⟩, Bool.or_true]

/-- A record that brings no RUN is offered in SAFE and RUN, and waits for a neutral one in SAFE (R29). -/
theorem judgeCommand_offered (still : ¬ Arms s s.intake.record) (offered : s.node.state = .safe ∨ s.node.state = .run) :
    judgeCommand s = offerCommand (s.setNode { s.node with armWait := waitsWith s s.intake.record }) := by
  have same : s.setNode { s.node with armWait := s.node.armWait } = s := rfl
  rcases offered with safe | run
  · by_cases neutral : Neutral s s.intake.record
    · have level : effectiveLevel s = .cutoff := by
        by_contra other
        exact still ⟨neutral, .inr ⟨safe, other⟩⟩
      rw [waitsWith_same fun waits => waits.2 neutral, same, judgeCommand_cutoff safe neutral level]
    · rw [waitsWith_set safe neutral, judgeCommand_waits safe neutral]
  · rw [waitsWith_same fun waits => by rw [run] at waits; exact absurd waits.1 nofun, same, judgeCommand_run run]

/-! ## A new command (R65) -/

/-- What the judgement of a new command makes of the state before it. -/
structure Judged (s : State) (sender : Nat) (c : CommandFrame) (u : State) : Prop where
  intake : u.intake =
    { bound := some sender, record := takenRecord s.intake.record c, marker := some (sender, c.sequence), linkAge := some 0
      stage := if Arms s (takenRecord s.intake.record c) then .none else s.intake.stage }
  rest : u = { popQueue s with
    intake := u.intake, steer := u.steer
    drive := if Arms s (takenRecord s.intake.record c) then { s.drive with ramped := 0, integrator := 0 } else s.drive
    node := { s.node with
      state := if Arms s (takenRecord s.intake.record c) then .run else s.node.state
      armWait := if Arms s (takenRecord s.intake.record c) then false
        else waitsWith s (takenRecord s.intake.record c)
      staging := if Arms s (takenRecord s.intake.record c) then [] else s.node.staging
      silenceTimer := if Arms s (takenRecord s.intake.record c) then none else s.node.silenceTimer
      defaultTimer := if Arms s (takenRecord s.intake.record c) then none else s.node.defaultTimer } }
  unoffered : s.node.state = .failsafe → ¬ Neutral s (takenRecord s.intake.record c) → u.steer = s.steer
  offered : s.node.state ≠ .failsafe ∨ Neutral s (takenRecord s.intake.record c) → u.steer =
    { offeredSteer s (takenRecord s.intake.record c) with
      lossCount := if Arms s (takenRecord s.intake.record c) then 0 else s.steer.lossCount }

theorem judged_arms (arms : Arms s (takenRecord s.intake.record c)) :
    Judged s sender c (judgeCommand (commandHeld sender c s)) := by
  have serving : isServing (enterRun (commandHeld sender c s)).node.state = true := by rw [enterRun_state]; rfl
  rw [judgeCommand_arms (s := commandHeld sender c s) arms, offerCommand_eq serving, enterRun_eq]
  refine ⟨?_, ?_, fun _ driven => absurd arms.1 driven, fun _ => ?_⟩
  · rw [if_pos arms]
    rfl
  · simp only [if_pos arms]
    rfl
  · rw [if_pos arms]
    rfl

theorem judged_failsafe (failsafe : s.node.state = .failsafe) (driven : ¬ Neutral s (takenRecord s.intake.record c)) :
    Judged s sender c (judgeCommand (commandHeld sender c s)) := by
  have still : ¬ Arms s (takenRecord s.intake.record c) := fun arms => driven arms.1
  rw [judgeCommand_failsafe (s := commandHeld sender c s) failsafe driven]
  have waits : waitsWith s (takenRecord s.intake.record c) = s.node.armWait :=
    waitsWith_same fun waits => by rw [failsafe] at waits; exact absurd waits.1 nofun
  refine ⟨?_, ?_, fun _ _ => rfl, fun offered => offered.elim (absurd failsafe) (absurd · driven)⟩
  · rw [if_neg still]
    rfl
  · simp only [if_neg still, waits]
    rfl

theorem judged_offered (still : ¬ Arms s (takenRecord s.intake.record c))
    (offered : s.node.state = .safe ∨ s.node.state = .run) : Judged s sender c (judgeCommand (commandHeld sender c s)) := by
  have serving : isServing s.node.state = true := (TrailBus.isServing_iff _).2 (offered.imp_right .inl)
  have served : s.node.state ≠ .failsafe := by rcases offered with e | e <;> rw [e] <;> nofun
  rw [judgeCommand_offered (s := commandHeld sender c s) still offered, offerCommand_eq (by exact serving)]
  refine ⟨?_, ?_, fun failsafe => absurd failsafe served, fun _ => ?_⟩
  · rw [if_neg still]
    rfl
  · simp only [if_neg still]
    rfl
  · rw [if_neg still]
    rfl

theorem judged_commandHeld (serving : isServing s.node.state = true) :
    Judged s sender c (judgeCommand (commandHeld sender c s)) := by
  by_cases arms : Arms s (takenRecord s.intake.record c)
  · exact judged_arms arms
  · rcases (TrailBus.isServing_iff _).1 serving with safe | run | failsafe
    · exact judged_offered arms (.inl safe)
    · exact judged_offered arms (.inr run)
    · exact judged_failsafe failsafe fun neutral => arms ⟨neutral, .inl failsafe⟩

/-! ## The cases of COMMAND (R61 to R65) -/

theorem execCommand_none (head : headOfKind .command s = none) : execCommand s = .next s := by
  unfold execCommand
  rw [head]

theorem execCommand_some {f : RxFrame} (head : headOfKind .command s = some f) :
    execCommand s = .next (settle (dealCommand f.sender f.payload (popQueue s))) := by
  unfold execCommand
  rw [head]
  rfl

/-- The states and the binding under which a COMMAND is discarded (R61, R63). -/
abbrev Discards (s : State) (sender : Nat) : Prop :=
  (s.node.state ≠ .safe ∧ s.node.state ≠ .run ∧ s.node.state ≠ .failsafe) ∨
    (s.intake.bound ≠ none ∧ s.intake.bound ≠ some sender)

theorem serving_of_not_discards (taken : ¬ Discards s sender) : isServing s.node.state = true := by
  rw [TrailBus.isServing_iff]
  by_contra idle
  push Not at idle
  exact taken (.inl idle)

theorem dealCommand_discarded {payload : List Byte} (discards : Discards s sender) :
    dealCommand sender payload (popQueue s) = popQueue s := by
  refine if_pos (discards.imp_left fun idle => ?_)
  rw [← Bool.not_eq_true, TrailBus.isServing_iff]
  push Not
  exact idle

/-- Of a sender that may command, the payload decides (R62 to R64). -/
theorem dealCommand_accepted {payload : List Byte} (taken : ¬ Discards s sender) :
    dealCommand sender payload (popQueue s) = match readCommand payload with
      | none => popQueue s
      | some c => if s.intake.marker = some (sender, c.sequence) then refreshLink sender (popQueue s)
        else judgeCommand (commandHeld sender c s) := by
  have serving := serving_of_not_discards taken
  refine if_neg fun discards => ?_
  rcases discards with idle | other
  · exact Bool.eq_false_iff.1 idle serving
  · exact taken (.inr other)

theorem clampInt_eq_max_min {lo hi x : Int} (ordered : lo ≤ hi) : clampInt lo hi x = max lo (min hi x) := by
  unfold clampInt
  split
  · omega
  · split <;> omega

/-- Settles O37: the cases of the intake in their order, the last of them by what the judgement leaves. -/
theorem commandsBindAndArm : Obligations.CommandsBindAndArm := by
  unfold Obligations.CommandsBindAndArm
  intro s
  show ∃ t, execCommand s = .next t ∧ _
  cases head : headOfKind .command s with
  | none => exact ⟨s, execCommand_none head, rfl⟩
  | some f =>
    refine ⟨_, execCommand_some head, ?_⟩
    dsimp only
    by_cases discards : Discards s f.sender
    · exact (if_pos discards).mpr (congrArg settle (dealCommand_discarded discards))
    refine (if_neg discards).mpr ?_
    rw [dealCommand_accepted discards]
    cases readCommand f.payload with
    | none => rfl
    | some c =>
      dsimp only
      by_cases duplicate : s.intake.marker = some (f.sender, c.sequence)
      · rw [if_pos duplicate, if_pos duplicate]
        rfl
      rw [if_neg duplicate, if_neg duplicate]
      have judged : Judged s f.sender c _ := judged_commandHeld (serving_of_not_discards discards)
      have clamps (x : Int) : clampInt (-1000) 1000 x = max (-1000) (min 1000 x) := clampInt_eq_max_min (by decide)
      generalize judgeCommand (commandHeld f.sender c s) = u at judged ⊢
      have intake : (settle u).intake = u.intake := settle_intake u
      have steer : (settle u).steer = u.steer := by rw [sameButReport_settle u]
      refine ⟨⟨clamps _, clamps _, clamps _, rfl, rfl, rfl, rfl, rfl⟩, intake.trans judged.intake, ?_, ?_, ?_⟩
      · rw [intake, steer]
        exact judged.rest ▸ sameButReport_settle u
      · exact fun failsafe driven => steer.trans (judged.unoffered failsafe driven)
      · exact fun offered => steer.trans (judged.offered offered)

end Sys2Proof.CommandIntake
end

section
/-! SUPPORT. What O11 keeps, in one predicate. Each shared operation and each node-state entry is shown to keep it once, by a
lemma that takes what comes before the operation; an operation that writes nothing the predicate reads needs no lemma. -/

namespace Sys2Proof.PowerSupervisor

open Sys2Proof Sys2Proof.Machine Sys2Proof.Safety

variable {s t u : State}

/-! ## The allowance under its cap -/

/-- What O11 speaks of: the allowance and its grants, and what the cap and the serving states are read from. -/
structure Budget where
  allowance : Nat
  grants : Consumers
  state : NodeState
  nodeCap : Nat
  thermal : ThermalClass

def budgetOf (s : State) : Budget :=
  { allowance := s.power.allowance, grants := s.power.grants, state := s.node.state
    nodeCap := (fieldsOf s).power.nodeCap, thermal := thermalClass s }

/-- The cap under a thermal class (R95). -/
def capUnder (nodeCap : Nat) (c : ThermalClass) : Nat := if c = .normal then nodeCap else nodeCap * 60 / 100

/-- The grants within the allowance, the allowance within its cap and 0 outside SAFE, RUN and FAILSAFE (R95, R96, R99). -/
structure WithinCap (x : Budget) : Prop where
  grants : grantSum x.grants ≤ x.allowance
  cap : x.allowance ≤ capUnder x.nodeCap x.thermal
  zeroOutside : isServing x.state = false → x.allowance = 0

/-- The budget of a state is within its cap. -/
abbrev Budgeted (s : State) : Prop := WithinCap (budgetOf s)

/-- The budget of a state is within the cap of a thermal class, which a sensor just read may have left (R96). -/
abbrev BudgetedAs (c : ThermalClass) (s : State) : Prop := WithinCap { budgetOf s with thermal := c }

theorem allowanceCap_eq_capUnder (s : State) : allowanceCap s = capUnder (fieldsOf s).power.nodeCap (thermalClass s) := by
  simp [allowanceCap, thermalWarn, capUnder]

theorem budgeted_iff : Budgeted s ↔ AllowanceInv s :=
  ⟨fun h => ⟨h.grants, (allowanceCap_eq_capUnder s).symm ▸ h.cap, h.zeroOutside⟩,
    fun h => ⟨h.grants, allowanceCap_eq_capUnder s ▸ h.cap, h.zeroOutside⟩⟩

/-- No cap is below that of a raised warning. -/
theorem capUnder_le_capUnder {before now : ThermalClass} (nodeCap : Nat) (unraised : before = .normal → now = .normal) :
    capUnder nodeCap before ≤ capUnder nodeCap now := by
  unfold capUnder
  split
  next normal => rw [if_pos (unraised normal)]
  next => split <;> omega

/-- An allowance of 0 with its grants is within every cap. -/
theorem WithinCap.of_zero {x : Budget} (allowance : x.allowance = 0) (grants : x.grants = Consumers.zero) : WithinCap x where
  grants := by
    rw [grants]
    exact Nat.zero_le _
  cap := allowance ▸ Nat.zero_le _
  zeroOutside _ := allowance

theorem Budgeted.ite {c : Prop} [Decidable c] (h : Budgeted t) (k : Budgeted u) : Budgeted (if c then t else u) := by
  split
  · exact h
  · exact k

/-- An operation that writes nothing the predicate reads: each of those fields it passes through. -/
theorem Budgeted.aside (h : Budgeted t) (allowance : u.power.allowance = t.power.allowance := by rfl)
    (grants : u.power.grants = t.power.grants := by rfl) (state : u.node.state = t.node.state := by rfl)
    (image : u.node.image = t.node.image := by rfl) (ts1 : u.monitor.ts1 = t.monitor.ts1 := by rfl)
    (die : u.monitor.die = t.monitor.die := by rfl) : Budgeted u := by
  have same : budgetOf u = budgetOf t := by
    simp only [budgetOf, fieldsOf, thermalClass, allowance, grants, state, image, ts1, die]
  rwa [Budgeted, same]

/-- Dividing an allowance grants no more than it (R99). -/
theorem grantSum_divideGrants_le (allowance : Nat) (d : Consumers) : grantSum (divideGrants allowance d) ≤ allowance := by
  obtain ⟨_, _, _, _, sum⟩ := divideGrants_spec allowance d
  exact sum

/-! ## Reports, records and the bus port -/

theorem budgeted_setPins {x : Pins} (h : Budgeted t) : Budgeted (t.setPins x) := h

theorem budgeted_setMonitor {x : Monitor} (h : Budgeted t) (ts1 : x.ts1 = t.monitor.ts1 := by rfl)
    (die : x.die = t.monitor.die := by rfl) : Budgeted (t.setMonitor x) := h.aside (ts1 := ts1) (die := die)

theorem budgeted_of_report (changes : SameButReport t u) (h : Budgeted t) : Budgeted u := by
  rw [changes]
  exact h

theorem budgeted_settle (h : Budgeted t) : Budgeted (settle t) := budgeted_of_report (NodeControl.sameButReport_settle t) h

theorem budgeted_placeReport (h : Budgeted t) : Budgeted (placeReport t) :=
  budgeted_of_report (NodeControl.sameButReport_placeReport t) h

theorem budgeted_placeFrame {k : TxKind} {payload : List Byte} (h : Budgeted t) : Budgeted (placeFrame k payload t) := by
  rw [placeFrame_frame]
  exact h

theorem budgeted_placeNotice (h : Budgeted t) : Budgeted (placeNotice t) := by
  unfold placeNotice
  split
  · exact budgeted_placeFrame h
  · exact h

theorem budgeted_finishAttempt (h : Budgeted t) : Budgeted (finishAttempt t) := by
  rw [TrailBus.finishAttempt_eq]
  cases lineKind t <;> exact h

theorem budgeted_requestBreak (h : Budgeted t) : Budgeted (requestBreak t) := by
  rw [TrailBus.requestBreak_eq]
  exact .ite h (budgeted_finishAttempt h)

theorem budgeted_raiseEvent {e : ReportEvent} (h : Budgeted t) : Budgeted (raiseEvent e t) := by
  rw [NodeControl.raiseEvent_frame]
  exact h

theorem budgeted_addFault {kind : FaultKind} {output : FaultOutput} {detail : Int} (h : Budgeted t) :
    Budgeted (addFault kind output detail t) := budgeted_raiseEvent h

/-! ## The bridges and the drum -/

theorem budgeted_of_drum (changes : NodeControl.SameButDrum t u) (h : Budgeted t) : Budgeted u := by
  unfold NodeControl.SameButDrum at changes
  rw [changes]
  exact h

theorem budgeted_setDrum {d : DrumState} (h : Budgeted t) : Budgeted (setDrum d t) :=
  budgeted_of_drum (NodeControl.sameButDrum_setDrum d t) h

theorem budgeted_closeOperation {reason : EndReason} (h : Budgeted t) : Budgeted (closeOperation reason t) :=
  budgeted_of_drum (NodeControl.sameButDrum_closeOperation reason t) h

theorem budgeted_placeWinch (h : Budgeted t) : Budgeted (placeWinch t) :=
  budgeted_of_drum (NodeControl.sameButDrum_placeWinch t) h

theorem budgeted_endOperation {reason : EndReason} {d : DrumState} (h : Budgeted t) : Budgeted (endOperation reason d t) :=
  budgeted_setDrum (t := brakeBridgeA (closeOperation reason t)) (budgeted_closeOperation h)

theorem budgeted_releaseDrum {reason : EndReason} (h : Budgeted t) : Budgeted (releaseDrum reason t) := by
  have released : Budgeted (offBridgeB (closeOperation reason t)) := budgeted_closeOperation h
  unfold releaseDrum
  exact .ite (.ite released (budgeted_setDrum released)) h

theorem budgeted_shutBridgeA (h : Budgeted t) : Budgeted (shutBridgeA t) := .ite h h

/-! ## The entries to the node states -/

theorem budgeted_goSafe {reason : EndReason} (h : Budgeted t) : Budgeted (goSafe reason t) :=
  budgeted_of_drum (NodeControl.goSafe_changes reason t) h

/-- A state that serves no commands starts with no allowance (R96). -/
theorem budgeted_moveTo {st : NodeState} (h : Budgeted t) : Budgeted (moveTo st t) := by
  rw [NodeControl.moveTo_eq]
  cases serves : isServing st
  · exact .of_zero rfl rfl
  · exact { h with zeroOutside := fun idle => absurd (serves.symm.trans idle) nofun }

theorem budgeted_startBeat (h : Budgeted t) : Budgeted (startBeat t) := .ite h h

/-- The outputs safe in a state just entered, with the CHECK step abandoned. -/
theorem budgeted_enteredSafe {st : NodeState} {reason : EndReason} (h : Budgeted t) :
    Budgeted (goSafe reason (abandonCheck (moveTo st t))) :=
  budgeted_goSafe (t := abandonCheck (moveTo st t)) (budgeted_moveTo h)

theorem budgeted_enterListen (h : Budgeted t) : Budgeted (enterListen t) := by
  have heard {s : State} (safe : Budgeted s) : Budgeted (NodeControl.listenFrom s) := safe
  rw [NodeControl.enterListen_eq, ← NodeControl.abandonCheck_moveTo rfl]
  exact heard (budgeted_enteredSafe h)

theorem budgeted_enterRun (h : Budgeted t) : Budgeted (enterRun t) := by
  have ramped {s : State} {x : Intake} (h : Budgeted s) : Budgeted ((zeroDrive (clearLoss s)).setIntake x) := h.aside
  exact ramped (budgeted_moveTo h)

theorem budgeted_enterFailsafe (h : Budgeted t) : Budgeted (enterFailsafe t) := by
  have unbound {s : State} {x : Intake} (h : Budgeted s) : Budgeted ((clearLoss s).setIntake x) := h.aside
  have braked {s : State} (h : Budgeted s) : Budgeted (brakeBridgeA s) := h.aside
  have moved := budgeted_moveTo (st := .failsafe) h
  exact budgeted_raiseEvent (.ite (budgeted_releaseDrum (braked (unbound moved))) (unbound moved))

theorem budgeted_enterCutoff {cause : CutoffCause} (h : Budgeted t) : Budgeted (enterCutoff cause t) := by
  have cleared {s : State} (h : Budgeted s) : Budgeted (clearIntake s) := h.aside
  have timed {s : State} (h : Budgeted s) : Budgeted (startReportTimer s) := .ite h.aside h
  have dark {s : State} {x : Option Nat} (h : Budgeted s) : Budgeted
      ((darkenForCutoff s).setNode { (darkenForCutoff s).node with noticeTimer := x }) := h.aside
  have recorded {st : NodeState} {detail : Int} {s : State} (h : Budgeted s) :
      Budgeted (addFaultIn st .cutoff .none detail (s.setPower { s.power with cause := some cause })) :=
    budgeted_raiseEvent h.aside
  have entered := recorded (st := t.node.state) (detail := cutoffCauseCode cause)
    (dark (x := none) (timed (cleared (budgeted_enteredSafe (st := .cutoff) (reason := .cutoff) h))))
  exact .ite h (.ite (budgeted_requestBreak entered) entered)

theorem budgeted_enterConflict {cause : ConflictCause} {strapCode : Nat} (h : Budgeted t) :
    Budgeted (enterConflict cause strapCode t) := by
  have recorded {s : State} {r : FaultRecord} (safe : Budgeted s) :
      Budgeted (NodeControl.conflictFrom cause strapCode r s) := safe
  rw [NodeControl.enterConflict_eq, ← NodeControl.abandonCheck_moveTo rfl]
  exact budgeted_startBeat (budgeted_placeNotice (recorded (budgeted_enteredSafe h)))

/-! ## The thermal class (R96, R198) -/

theorem budgetedAs_setSensor {c : ThermalClass} {x : Sensor} {v : SensorState} (h : BudgetedAs c t) :
    BudgetedAs c (setSensor x v t) := by
  cases x <;> exact h

theorem budgetedAs_failSensor {c : ThermalClass} {x : Sensor} {reading : Int} (h : BudgetedAs c t) :
    BudgetedAs c (failSensor x reading t) := by
  have set {v : SensorState} := budgetedAs_setSensor (x := x) (v := v) h
  unfold failSensor addFault addFaultIn
  rw [NodeControl.raiseEvent_frame]
  exact set

theorem BudgetedAs.ite {c : ThermalClass} {p : Prop} [Decidable p] (h : BudgetedAs c t) (k : BudgetedAs c u) :
    BudgetedAs c (if p then t else u) := by
  split
  · exact h
  · exact k

theorem budgetedAs_checkSensor {c : ThermalClass} {x : Sensor} {reading : Int} (h : BudgetedAs c t) :
    BudgetedAs c (checkSensor x reading t) :=
  .ite (.ite (budgetedAs_setSensor h) (budgetedAs_failSensor h)) (budgetedAs_setSensor h)

theorem budgetedAs_readSensor {c : ThermalClass} {x : Sensor} {reading : Int} (h : BudgetedAs c t) :
    BudgetedAs c (readSensor x reading t) :=
  .ite (.ite (budgetedAs_setSensor h) (.ite (budgetedAs_failSensor h) (budgetedAs_setSensor h))) (budgetedAs_setSensor h)

/-- Whatever the class was, an allowance above the cap in force is lowered to it. -/
theorem budgeted_lowerAllowance {before : ThermalClass} (h : BudgetedAs before t) : Budgeted (lowerAllowance t) := by
  unfold lowerAllowance
  split
  next above =>
    refine ⟨grantSum_divideGrants_le _ _, (allowanceCap_eq_capUnder t).le, fun idle => ?_⟩
    have zero : t.power.allowance = 0 := h.zeroOutside idle
    exact absurd above (zero ▸ Nat.not_lt_zero _)
  next within => exact { h with cap := allowanceCap_eq_capUnder t ▸ Nat.not_lt.1 within }

/-- A warning just raised lowers the allowance; without one the cap has not fallen (R96). -/
theorem budgeted_warned {before : ThermalClass} (h : BudgetedAs before t) :
    Budgeted (if before = .normal ∧ thermalClass t ≠ .normal then lowerAllowance t else t) := by
  split
  next => exact budgeted_lowerAllowance h
  next calm =>
    exact { h with cap := h.cap.trans (capUnder_le_capUnder _ fun was => not_not.1 fun raised => calm ⟨was, raised⟩) }

theorem budgeted_thermalEffects {before : ThermalClass} (h : BudgetedAs before t) : Budgeted (thermalEffects before t) := by
  have warned := budgeted_warned h
  have shut {output : FaultOutput} {reading : Int} := budgeted_shutBridgeA
    (budgeted_addFault (kind := .overtemp) (output := output) (detail := reading) (t := offBridgeB _) warned)
  have closed {output : FaultOutput} {reading : Int} := budgeted_setDrum (d := .braked)
    (budgeted_closeOperation (reason := .fault) (shut (output := output) (reading := reading)))
  unfold thermalEffects
  refine .ite ?_ warned
  dsimp only
  split
  · exact closed
  · exact closed
  · exact closed
  · exact budgeted_setDrum shut
  all_goals exact shut

theorem budgeted_temperatureStep (h : Budgeted t) : Budgeted (temperatureStep t) :=
  budgeted_thermalEffects (budgetedAs_checkSensor (budgetedAs_checkSensor h))

/-! ## The CHECK sequence -/

theorem budgeted_withdrawA {result : CheckResult} (h : Budgeted t) : Budgeted (withdrawA result t) := by
  have held {m : BridgeMode} {b : Option BridgeMode} : Budgeted (forceBridgeA m 0 (zeroDrive (t.setMonitor
      { t.monitor with withdrawn := { t.monitor.withdrawn with bridgeA := true }, holdA := b }))) := h
  exact .ite (budgeted_setDrum (t := offBridgeB _) (budgeted_closeOperation held)) held

theorem budgeted_withdrawB (h : Budgeted t) : Budgeted (withdrawB t) := .ite (budgeted_setDrum h) h

theorem budgeted_withdrawLamp {l : Lamp} {current : Nat} (h : Budgeted t) : Budgeted (withdrawLamp l current t) :=
  budgeted_addFault h

theorem budgeted_driveStep {st : CheckStep} (h : Budgeted t) : Budgeted (driveStep st t) := by
  cases st <;> exact h

theorem budgeted_beginStep {st : CheckStep} (h : Budgeted t) : Budgeted (beginStep st t) := by
  unfold beginStep
  exact budgeted_driveStep (budgeted_setMonitor h)

theorem budgeted_enterSafe (h : Budgeted t) : Budgeted (enterSafe t) := by
  have off {s : State} (h : Budgeted s) : Budgeted (endTripWaitB (offBridgeB (clearLoss (abandonCheck s)))) := h.aside
  have held {s : State} (h : Budgeted s) : Budgeted (holdBridgeA s) := h.aside
  have safe : Budgeted (NodeControl.safeEntered t) := held (budgeted_releaseDrum (off (budgeted_moveTo h)))
  rw [NodeControl.enterSafe_eq]
  exact .ite (budgeted_placeWinch safe) safe

theorem budgeted_reachStep {st : CheckStep} (h : Budgeted t) : Budgeted (reachStep st t) := by
  unfold reachStep
  split
  · exact h
  · exact budgeted_temperatureStep (t := commitRatings t) h
  · exact h

theorem budgeted_advance {steps : List CheckStep} (h : Budgeted t) : Budgeted (advance steps t) := by
  induction steps generalizing t with
  | nil => exact budgeted_enterSafe h
  | cons st rest ih =>
    have reached := budgeted_reachStep (st := st) h
    unfold advance
    exact .ite (ih reached) (.ite (ih reached) (.ite reached (budgeted_beginStep reached)))

theorem budgeted_completeStep {st : CheckStep} (h : Budgeted t) : Budgeted (completeStep st t) := budgeted_advance h

theorem budgeted_enterCheck (h : Budgeted t) : Budgeted (enterCheck t) := by
  have begun {s : State} {r : CheckRecord} (h : Budgeted s) : Budgeted ((clearIntake s).setMonitor
      { (clearIntake s).monitor with record := r, waiting := false }) := h.aside
  unfold enterCheck startSequence
  exact budgeted_advance (budgeted_setMonitor (begun (budgeted_goSafe (budgeted_moveTo h))))

/-! ## An image comes into force; the resets -/

/-- The supervisor starts with no allowance (R77, R106). -/
theorem budgeted_applyImage (img : ImageInForce) (s : State) : Budgeted (applyImage img s) := by
  have started {s : State} : Budgeted (clearMarks (s.setPower { Power.reset with running := true })) := .of_zero rfl rfl
  have sampled {s : State} {x : Winch} (h : Budgeted s) : Budgeted (holdBridgeA (s.setWinch x)) := h.aside
  unfold applyImage
  exact .ite (sampled started) started

theorem budgeted_restartBlocks (s : State) : Budgeted (restartBlocks s) := by
  rw [NodeControl.restartBlocks_eq]
  exact .of_zero rfl rfl

end Sys2Proof.PowerSupervisor
end

section
/-! SUPPORT and THEOREM. The meaning of every command keeps the allowance under its cap, unit by unit (O11). -/

namespace Sys2Proof.PowerSupervisor

open Sys2Proof Sys2Proof.Machine Sys2Proof.Safety

variable {s t u : State}

/-! ## Answers -/

/-- Every next state that a command answers with has its budget within the cap. -/
def AnswerBudgeted (a : Answer) : Prop := ∀ t, a = .next t → Budgeted t

theorem AnswerBudgeted.next (h : Budgeted t) : AnswerBudgeted (.next t) := by
  rintro _ ⟨⟩
  exact h

theorem AnswerBudgeted.done (h : Budgeted t) : AnswerBudgeted (done t) := .next (budgeted_settle h)

theorem AnswerBudgeted.ite {a b : Answer} {c : Prop} [Decidable c] (h : AnswerBudgeted a) (k : AnswerBudgeted b) :
    AnswerBudgeted (if c then a else b) := by
  split
  · exact h
  · exact k

/-! ## The bus port (spec 01) -/

theorem answerBudgeted_receptionFailed {how : RxFail} (h : Budgeted s) : AnswerBudgeted (execReceptionFailed how s) := by
  have failed : Budgeted (countFailure how s) := by cases how <;> exact h
  have counted : Budgeted (countUnless (exemptNow how s) (countFailure how) s) := .ite h failed
  unfold execReceptionFailed
  exact .ite (.next counted) (.next h)

theorem budgeted_disposeFrame {echo : Bool} {kind : FrameKind} {sender : Nat} {payload : List Byte} (h : Budgeted t) :
    Budgeted (disposeFrame echo kind sender payload t) := by
  have queued {f : RxFrame} : Budgeted (enqueue f t) := .ite h h
  unfold disposeFrame
  exact .ite h (.ite h (.ite h queued))

theorem answerBudgeted_frameReceived {bytes : List Byte} (h : Budgeted s) : AnswerBudgeted (execFrameReceived bytes s) := by
  have received {x : Receiver} : Budgeted (setRx x s) := h
  have counted {f : BusCounters → BusCounters} {x : Receiver} : Budgeted (countBus f (setRx x s)) := h
  unfold execFrameReceived
  refine .ite ?_ (.next h)
  dsimp only
  split
  · exact .next (.ite received counted)
  · exact .next (.ite received counted)
  · exact .next (budgeted_disposeFrame received)

theorem answerBudgeted_breakRecognised (h : Budgeted s) : AnswerBudgeted (execBreakRecognised s) := by
  have received {x : Receiver} : Budgeted (setRx x s) := h
  unfold execBreakRecognised
  exact .ite (.next received) (.done (budgeted_enterCutoff received))

theorem answerBudgeted_attemptStart (h : Budgeted s) : AnswerBudgeted (execAttemptStart s) := by
  unfold execAttemptStart
  refine .ite ?_ (.next h)
  split
  · exact .next h
  · split <;> exact .next h

theorem budgeted_loseAttempt {k : TxKind} (h : Budgeted t) : Budgeted (loseAttempt k t) := by
  unfold loseAttempt
  exact .ite h h

theorem answerBudgeted_arbitrationLost (h : Budgeted s) : AnswerBudgeted (execArbitrationLost s) := by
  unfold execArbitrationLost
  split
  · exact .next h
  · exact .next (budgeted_loseAttempt h)

theorem answerBudgeted_lineFault (h : Budgeted s) : AnswerBudgeted (execLineFault s) := by
  unfold execLineFault
  split
  · exact .next h
  next k _ =>
    have lost : Budgeted (loseAttempt k s) := budgeted_loseAttempt h
    exact .next lost

theorem answerBudgeted_collision (h : Budgeted s) : AnswerBudgeted (execCollision s) := by
  have exempt {b : Bool} {t : State} (h : Budgeted t) : Budgeted (markExempt (if b then countTxDrop t else t)) := by
    cases b <;> exact h
  have freed {k : TxKind} {sl : Slot} : Budgeted (countCollision (setSlot k sl (clearAttempt s))) := h
  unfold execCollision
  split
  · exact .next h
  · exact .next (exempt freed)

theorem budgeted_restartCycle (h : Budgeted t) : Budgeted (restartCycle t) := h.aside

theorem answerBudgeted_attemptComplete (h : Budgeted s) : AnswerBudgeted (execAttemptComplete s) := by
  have completed : Budgeted (completeAttempt s) := budgeted_finishAttempt h
  unfold execAttemptComplete
  split
  · exact .next h
  · exact .next (.ite (budgeted_restartCycle completed) completed)

/-! ## The light sequencer (spec 09) -/

theorem budgeted_mapChannels {f : Lamp → Channel → Channel} (h : Budgeted t) : Budgeted (mapChannels f t) := h

theorem budgeted_setLights {x : Lights} (h : Budgeted t) : Budgeted (t.setLights x) := h

theorem budgeted_wrapCycle (h : Budgeted t) : Budgeted (wrapCycle t) := by
  unfold wrapCycle
  exact .ite (budgeted_placeFrame h) h

theorem budgeted_beatStep (h : Budgeted t) : Budgeted (beatStep t) := by
  have wrapped : Budgeted (promoteAtWrap (wrapCycle (mapChannels (fun _ c => { c with active := c.staged }) t))) :=
    budgeted_mapChannels (budgeted_wrapCycle (budgeted_mapChannels h))
  exact budgeted_mapChannels (budgeted_mapChannels (budgeted_setLights (budgeted_setLights
    (.ite wrapped (budgeted_setLights (budgeted_mapChannels h))))))

theorem answerBudgeted_beatTaken (h : Budgeted s) : AnswerBudgeted (execBeatTaken s) := by
  have withdrawn {x : Lights} : Budgeted ((withdrawFrame .beat (popQueue s)).setLights x) := h
  unfold execBeatTaken
  split
  · exact .next h
  · split
    · exact .next h
    · exact .next (budgeted_restartCycle withdrawn)

/-! ## The node controller (spec 02, 03) -/

theorem answerBudgeted_strapReadSuccess {p : Position} (h : Budgeted s) : AnswerBudgeted (execStrapReadSuccess p s) :=
  .ite (.next (budgeted_enterListen (t := s.setNode _) h)) (.next h)

theorem answerBudgeted_strapReadFail {last : Option Position} (h : Budgeted s) : AnswerBudgeted (execStrapReadFail last s) :=
  .ite (.next (budgeted_enterConflict (t := s.setNode _) h)) (.next h)

theorem answerBudgeted_silenceTimerExpiry (h : Budgeted s) : AnswerBudgeted (execSilenceTimerExpiry s) := by
  have silent : Budgeted (s.setNode { s.node with silenceTimer := none }) := h
  have reported := budgeted_placeReport silent
  unfold execSilenceTimerExpiry
  exact .ite (.done (.ite (budgeted_enterCheck reported) reported)) (.next h)

theorem answerBudgeted_defaultTimerExpiry (h : Budgeted s) : AnswerBudgeted (execDefaultTimerExpiry s) := by
  have applied := budgeted_applyImage defaultImage s
  have flagged : Budgeted ((applyImage defaultImage s).setNode
      { (applyImage defaultImage s).node with defaultConfig := true }) := applied
  unfold execDefaultTimerExpiry
  exact .ite (.ite (.next h) (.done (budgeted_enterCheck flagged))) (.next h)

theorem budgeted_completeImage (h : Budgeted t) : Budgeted (completeImage t) := by
  have applied := budgeted_applyImage (receivedImage (stagedBytes t.node.staging)) t
  unfold completeImage
  exact .ite (.ite (budgeted_enterCheck applied) applied) h

theorem budgeted_takeConfig {payload : List Byte} (h : Budgeted t) : Budgeted (takeConfig payload t) := by
  have staged {index : Nat} {bytes : List Byte} : Budgeted (stageSegment index bytes t) :=
    .ite (budgeted_completeImage (t := t.setNode _) h) h
  unfold takeConfig
  refine .ite ?_ h
  cases payload with
  | nil => exact h
  | cons i bytes => exact .ite staged h

theorem answerBudgeted_config (h : Budgeted s) : AnswerBudgeted (execConfig s) := by
  unfold execConfig
  split
  · exact .next h
  · exact .done (budgeted_takeConfig h)

theorem budgeted_takeAssign {serial : BitVec 24} {position : Nat} (h : Budgeted t) :
    Budgeted (takeAssign serial position t) := by
  have refused : Budgeted (refuseAssign t) := budgeted_placeNotice (t := t.setNode _) h
  unfold takeAssign
  refine .ite ?_ h
  cases posOfCode position with
  | none => exact refused
  | some p => exact .ite refused (budgeted_enterListen (budgeted_restartBlocks _))

theorem answerBudgeted_assign (h : Budgeted s) : AnswerBudgeted (execAssign s) := by
  unfold execAssign
  split
  · exact .next h
  · split
    · exact .next h
    · exact .next (budgeted_takeAssign h)

theorem answerBudgeted_ownStationFrame (h : Budgeted s) : AnswerBudgeted (execOwnStationFrame s) := by
  unfold execOwnStationFrame
  split
  · exact .next h
  · exact .next (.ite (budgeted_enterConflict h) h)

/-! ## The peer monitor and the queries (spec 03) -/

theorem answerBudgeted_report (h : Budgeted s) : AnswerBudgeted (execReport s) := by
  unfold execReport
  split
  · exact .next h
  · unfold takeReport
    split <;> exact .next h

theorem answerBudgeted_peerLost {station : Nat} (h : Budgeted s) : AnswerBudgeted (execPeerLost station s) := by
  unfold execPeerLost
  split <;> exact .next h

theorem answerBudgeted_winch (h : Budgeted s) : AnswerBudgeted (execWinch s) := by
  have taken {f : RxFrame} : Budgeted (takeWinch f (popQueue s)) := by
    unfold takeWinch
    refine .ite h ?_
    split <;> exact h
  unfold execWinch
  split
  · exact .next h
  · exact .next taken

theorem budgeted_placeAnswer {asker code : Nat} {result : AnswerResult} {data : List Byte} (h : Budgeted t) :
    Budgeted (placeAnswer asker code result data t) := budgeted_placeFrame h

theorem answerBudgeted_onQuery {code : QueryCode} {act : QueryRead → State → State} (h : Budgeted s)
    (acts : ∀ q, Budgeted (popQueue s) → Budgeted (act q (popQueue s))) : AnswerBudgeted (onQuery code act s) := by
  unfold onQuery
  split
  · exact .next h
  · exact .ite (.done (.ite (acts _ h) h)) (.next h)

theorem answerBudgeted_answerOk {code : QueryCode} {data : State → List Byte} (h : Budgeted s) :
    AnswerBudgeted (onQuery code (answerOk data) s) := answerBudgeted_onQuery h fun _ => budgeted_placeAnswer

theorem budgeted_answerIndexed {α : Type} {top : Nat} {l : List α} {data : α → List Byte} {q : QueryRead}
    (h : Budgeted t) : Budgeted (answerIndexed top l data q t) := by
  unfold answerIndexed
  refine .ite (budgeted_placeAnswer h) ?_
  split <;> exact budgeted_placeAnswer h

theorem answerBudgeted_fault (h : Budgeted s) : AnswerBudgeted (execFault s) :=
  answerBudgeted_onQuery h fun _ => budgeted_answerIndexed

theorem answerBudgeted_winchLog (h : Budgeted s) : AnswerBudgeted (execWinchLog s) :=
  answerBudgeted_onQuery h fun _ k => .ite (budgeted_answerIndexed k) (budgeted_placeAnswer k)

theorem answerBudgeted_restart (h : Budgeted s) : AnswerBudgeted (execRestart s) :=
  answerBudgeted_onQuery h fun _ k =>
    .ite (budgeted_placeAnswer k) (budgeted_enterListen (budgeted_placeAnswer (budgeted_restartBlocks _)))

theorem answerBudgeted_recheck (h : Budgeted s) : AnswerBudgeted (execRecheck s) :=
  answerBudgeted_onQuery h fun _ k => .ite (budgeted_enterCheck (budgeted_placeAnswer k)) (budgeted_placeAnswer k)

theorem answerBudgeted_queryUnknownCode (h : Budgeted s) : AnswerBudgeted (execQueryUnknownCode s) := by
  have answered {asker code : Nat} : Budgeted (placeAnswer asker code .unknown [] (popQueue s)) := budgeted_placeAnswer h
  unfold execQueryUnknownCode
  split
  · exact .next h
  · split
    · exact .next h
    · exact .ite (.next h) (.next (.ite answered h))

/-! ## The command intake (spec 04) -/

theorem budgeted_judgeCommand (h : Budgeted t) : Budgeted (judgeCommand t) := by
  have offered {s : State} (h : Budgeted s) : Budgeted (offerCommand s) := h
  have ran := offered (budgeted_enterRun h)
  unfold judgeCommand
  dsimp only
  split
  · exact .ite (.ite (offered h) ran) (offered (s := t.setNode _) h)
  · exact offered h
  · exact .ite ran h
  all_goals exact h

theorem budgeted_dealCommand {sender : Nat} {payload : List Byte} (h : Budgeted t) :
    Budgeted (dealCommand sender payload t) := by
  have refreshed : Budgeted (refreshLink sender t) := h
  have taken {c : CommandFrame} : Budgeted (takeCommand sender c t) := budgeted_judgeCommand (t := t.setIntake _) h
  unfold dealCommand
  refine .ite h ?_
  split
  · exact h
  · exact .ite refreshed taken

theorem answerBudgeted_command (h : Budgeted s) : AnswerBudgeted (execCommand s) := by
  unfold execCommand
  split
  · exact .next h
  · exact .done (budgeted_dealCommand h)

theorem answerBudgeted_linkExpiry (h : Budgeted s) : AnswerBudgeted (execLinkExpiry s) := by
  have unbound : Budgeted (s.setIntake { s.intake with bound := none }) := h
  unfold execLinkExpiry
  refine .ite ?_ (.next h)
  split
  · exact .next h
  · exact .done (budgeted_enterFailsafe unbound)
  all_goals exact .next h

/-! ## The power supervisor (spec 05) -/

/-- The bounds of stage 10 keep the share within the cap, and give nothing outside SAFE, RUN and FAILSAFE (R95, R96). -/
theorem boundShare_le (l : Protection) (floor cap : Nat) (serving : Bool) (share : Nat) :
    boundShare l floor cap serving share ≤ cap := by
  unfold boundShare
  split
  · exact Nat.zero_le _
  · exact Nat.min_le_left _ _

theorem boundShare_idle (l : Protection) (floor cap share : Nat) : boundShare l floor cap false share = 0 :=
  if_pos (.inr rfl)

/-- Whatever the budget before it, the share of a tick is within the cap (R95, R99). -/
theorem budgeted_stageShare (l : Protection) (s : State) : Budgeted (stageShare l s) where
  grants := grantSum_divideGrants_le _ _
  cap := (boundShare_le _ _ _ _ _).trans (allowanceCap_eq_capUnder s).le
  zeroOutside idle := by
    have still : isServing s.node.state = false := idle
    show boundShare _ _ _ (isServing s.node.state) _ = 0
    rw [still]
    exact boundShare_idle _ _ _ _

theorem budgeted_budgetTick (r : BudgetReadings) (s : State) : Budgeted (budgetTick r s) := by
  have marked {s : State} (h : Budgeted s) : Budgeted (clearMarks s) := h.aside
  exact marked (budgeted_stageShare _ _)

theorem answerBudgeted_budgetTick {r : BudgetReadings} (h : Budgeted s) : AnswerBudgeted (execBudgetTick r s) :=
  .ite (.done (budgeted_budgetTick r _)) (.next h)

theorem answerBudgeted_peerCutoffTest (h : Budgeted s) : AnswerBudgeted (execPeerCutoffTest s) := by
  have timed : Budgeted (s.setPower { s.power with timer := 0 }) := h
  exact .ite (.next h) (.done (.ite (budgeted_enterCutoff timed) timed))

/-! ## The steering unit (spec 06) -/

theorem budgeted_declareStall {err : Int} (h : Budgeted t) : Budgeted (declareStall err t) :=
  .ite (budgeted_addFault (t := t.setSteer _) h) h

theorem budgeted_loopTick {isb : Nat} (h : Budgeted t) : Budgeted (loopTick isb t) := by
  have moved {x : Steer} : Budgeted (t.setSteer x) := h
  have written {m : BridgeMode} {d : Nat} {s : State} (h : Budgeted s) : Budgeted (writeBridgeB m d s) := h
  exact written (.ite (budgeted_declareStall moved) moved)

theorem answerBudgeted_actuatorTick {pot isb : Nat} (h : Budgeted s) : AnswerBudgeted (execActuatorTick pot isb s) := by
  have read : Budgeted (readActuator pot isb s) := h
  have off : Budgeted (offBridgeB (readActuator pot isb s)) := h
  have started : Budgeted (startLoop (readActuator pot isb s)) := .ite read read
  unfold execActuatorTick
  exact .ite (.ite (.done (budgeted_loopTick started)) (.next (.ite off read))) (.next h)

theorem answerBudgeted_steerStall (h : Budgeted s) : AnswerBudgeted (execSteerStall s) := by
  have stalled := budgeted_declareStall (err := s.steer.actuator - s.steer.measured) h
  have written {m : BridgeMode} {d : Nat} {s : State} (h : Budgeted s) : Budgeted (writeBridgeB m d s) := h
  exact .ite (.done (written stalled)) (.next h)

theorem answerBudgeted_steerSensorLost {pot : Nat} (h : Budgeted s) : AnswerBudgeted (execSteerSensorLost pot s) := by
  have lost {p : Pins} {x : Steer} : Budgeted ((s.setPins p).setSteer x) := h
  have off {s : State} (h : Budgeted s) : Budgeted (offBridgeB s) := h
  unfold execSteerSensorLost
  exact .ite (.done (budgeted_addFault (off (budgeted_raiseEvent lost)))) (.next h)

/-! ## The drive unit (spec 07) -/

theorem budgeted_setDrive {x : Drive} (h : Budgeted t) : Budgeted (t.setDrive x) := h

theorem budgeted_loseEncoder (h : Budgeted t) : Budgeted (loseEncoder t) := budgeted_addFault (t := t.setDrive _) h

theorem budgeted_watchLoss (h : Budgeted t) : Budgeted (watchLoss t) := .ite h (.ite (.ite (budgeted_loseEncoder h) h) h)

theorem budgeted_writeIf {set : Option Setting} (h : Budgeted t) : Budgeted (writeIf set t) := by
  cases set <;> exact h

theorem budgeted_setDriveFlags (h : Budgeted t) : Budgeted (setDriveFlags t) :=
  .ite h (budgeted_raiseEvent (t := t.setDrive _) h)

theorem budgeted_cornerTick {isa : Nat} (h : Budgeted t) : Budgeted (cornerTick isa t) := by
  have watched := budgeted_watchLoss (budgeted_setDrive
    (x := { t.drive with measured := measuredSpeed t.drive, speed := wheelSpeed t (measuredSpeed t.drive) }) h)
  exact budgeted_setDriveFlags (budgeted_writeIf (budgeted_setDrive (budgeted_setDrive watched)))

theorem answerBudgeted_driveTick {isa : Nat} (h : Budgeted s) : AnswerBudgeted (execDriveTick isa s) := by
  have timed {p : Pins} {n : Nat} : Budgeted ((s.setPins p).setDrive { s.drive with timer := n }) := h
  unfold execDriveTick
  dsimp only
  split
  · exact .done (budgeted_cornerTick timed)
  all_goals exact .next h

theorem budgeted_countRecovery {dir : Direction} (h : Budgeted t) : Budgeted (countRecovery dir t) := by
  unfold countRecovery
  exact .ite (.ite (.ite h h) h) h

theorem budgeted_drumEdge {dir : Direction} (h : Budgeted t) : Budgeted (drumEdge dir t) := by
  have counted {x : Winch} : Budgeted (t.setWinch x) := h
  unfold drumEdge
  exact .ite (budgeted_endOperation counted) counted

theorem answerBudgeted_encoderEdge {dir : Direction} {interval : Nat} (h : Budgeted s) :
    AnswerBudgeted (execEncoderEdge dir interval s) := by
  unfold execEncoderEdge
  dsimp only
  split
  · exact .next (budgeted_countRecovery (budgeted_setDrive h))
  · exact .done (budgeted_drumEdge (budgeted_setDrive h))
  · exact .next h
  · exact .next h

theorem budgeted_tripA (h : Budgeted t) : Budgeted (tripA t) := by
  have withdrawn : Budgeted (withdrawByTrips t) := budgeted_addFault (budgeted_withdrawA (budgeted_setDrive h))
  have opened {x : Drive} {y : Winch} : Budgeted (((forceBridgeA .off 0 (zeroDrive t)).setDrive x).setWinch y) := h
  unfold tripA
  exact .ite withdrawn (budgeted_addFault opened)

theorem answerBudgeted_overcurrentTrip {current : Nat} (h : Budgeted s) : AnswerBudgeted (execOvercurrentTrip current s) :=
  .ite (.done (budgeted_tripA h)) (.next h)

/-! ## The winch unit (spec 08) -/

theorem budgeted_driveSolenoid {isb : Nat} (h : Budgeted t) : Budgeted (driveSolenoid isb t) := h

theorem budgeted_fromBraked {isb : Nat} (h : Budgeted t) : Budgeted (fromBraked isb t) := by
  have engaging {dir : WinchDir} : Budgeted (startEngaging dir t) := budgeted_setDrum h
  have freed : Budgeted (startFreespool isb t) := budgeted_driveSolenoid (budgeted_setDrum h)
  unfold fromBraked
  dsimp only
  split
  · exact .ite freed h
  · exact .ite h engaging

theorem budgeted_drumLoop {dir : WinchDir} {isa : Nat} (h : Budgeted t) : Budgeted (drumLoop dir isa t) := .ite h h

theorem budgeted_watchDrum {isa : Nat} (h : Budgeted t) : Budgeted (watchDrum isa t) := by
  unfold watchDrum
  refine .ite ?_ h
  split
  · exact h
  · exact .ite (budgeted_endOperation h) h

theorem budgeted_setDrumTarget {dir : WinchDir} (h : Budgeted t) : Budgeted (setDrumTarget dir t) := h

theorem budgeted_fromRunning {dir : WinchDir} {isa : Nat} (h : Budgeted t) : Budgeted (fromRunning dir isa t) := by
  have looped : Budgeted (drumLoop dir isa (setDrumTarget dir t)) := budgeted_drumLoop (budgeted_setDrumTarget h)
  unfold fromRunning
  exact .ite (.ite (budgeted_watchDrum looped) looped) (budgeted_endOperation h)

theorem budgeted_engageEnd (h : Budgeted t) : Budgeted (engageEnd t) := by
  have turned {x : Winch} : Budgeted (t.setWinch x) := h
  have givenUp : Budgeted (setDrum .braked (closeOperation .lever t)) := budgeted_setDrum (budgeted_closeOperation h)
  unfold engageEnd
  split
  · exact givenUp
  · exact .ite (budgeted_setDrumTarget (budgeted_setDrum turned)) givenUp

theorem budgeted_runEntered {isa : Nat} (h : Budgeted t) : Budgeted (runEntered isa t) :=
  .ite (budgeted_watchDrum (budgeted_drumLoop h)) (.ite (budgeted_drumLoop h) h)

theorem budgeted_fromEngaging {isa : Nat} (h : Budgeted t) : Budgeted (fromEngaging isa t) := by
  unfold fromEngaging
  refine .ite (budgeted_setDrum (budgeted_closeOperation h)) ?_
  split
  · exact h
  · exact .ite (budgeted_runEntered (budgeted_engageEnd h)) h

theorem budgeted_fromFreespool {isb : Nat} (h : Budgeted t) : Budgeted (fromFreespool isb t) :=
  .ite h (budgeted_setDrum (t := offBridgeB t) h)

theorem budgeted_fromBlocked {dir : WinchDir} (h : Budgeted t) : Budgeted (fromBlocked dir t) :=
  .ite h (budgeted_setDrum h)

theorem budgeted_restDrum (h : Budgeted t) : Budgeted (restDrum t) := .ite h h

theorem budgeted_drumTick {isa isb : Nat} (h : Budgeted t) : Budgeted (drumTick isa isb t) := by
  have rested := budgeted_restDrum h
  unfold drumTick
  split
  · exact budgeted_fromBraked rested
  · exact budgeted_fromEngaging rested
  · exact budgeted_fromRunning h
  · exact budgeted_fromRunning h
  · exact budgeted_fromBlocked rested
  · exact budgeted_fromBlocked rested
  · exact budgeted_fromBlocked rested
  · exact budgeted_fromFreespool rested
  · exact rested

theorem answerBudgeted_controlTick {isa isb : Nat} (h : Budgeted s) : AnswerBudgeted (execControlTick isa isb s) := by
  have read : Budgeted (readControl isa isb s) := h
  unfold execControlTick
  exact .ite (.ite (.done (budgeted_drumTick read)) (.next (budgeted_restDrum read))) (.next h)

theorem answerBudgeted_limitAcceptance {sw0 sw1 : Option SwitchLevel} (h : Budgeted s) :
    AnswerBudgeted (execLimitAcceptance sw0 sw1 s) := by
  have accepted {p : Pins} {x : Winch} : Budgeted ((s.setPins p).setWinch x) := h
  unfold execLimitAcceptance acceptLimits
  exact .ite (.done (.ite (budgeted_endOperation accepted) (.ite (budgeted_endOperation accepted) accepted))) (.next h)

/-! ## The output monitor (spec 10) -/

theorem budgeted_setRecord {f : CheckRecord → CheckRecord} (h : Budgeted t) : Budgeted (setRecord f t) := h

theorem budgeted_failA {result : CheckResult} {st : CheckStep} (h : Budgeted t) : Budgeted (failA result st t) :=
  budgeted_completeStep (budgeted_withdrawA (budgeted_addFault (budgeted_setRecord h)))

theorem budgeted_restorePrior {st : CheckStep} (h : Budgeted t) : Budgeted (restorePrior st t) :=
  .ite (.ite h (budgeted_raiseEvent (t := t.setSteer _) h)) h

theorem budgeted_failB {result : CheckResult} {st : CheckStep} (h : Budgeted t) : Budgeted (failB result st t) :=
  budgeted_completeStep (budgeted_withdrawB (budgeted_addFault (budgeted_setRecord (budgeted_restorePrior h))))

theorem budgeted_passA (h : Budgeted t) : Budgeted (passA t) := budgeted_completeStep (budgeted_setRecord h)

theorem budgeted_passB (h : Budgeted t) : Budgeted (passB t) := budgeted_completeStep (budgeted_setRecord h)

theorem answerBudgeted_supplyTestRetry {vpack : Int} (h : Budgeted s) : AnswerBudgeted (execSupplyTestRetry vpack s) := by
  unfold execSupplyTestRetry
  exact .ite (.ite (.done (budgeted_completeStep (budgeted_setPins h))) (.next h)) (.next h)

theorem answerBudgeted_pullTestEnd {out vpack : Int} (h : Budgeted s) : AnswerBudgeted (execPullTestEnd out vpack s) := by
  have read {p : Pins} : Budgeted (s.setPins p) := h
  unfold execPullTestEnd
  split
  · exact .done (.ite (budgeted_failA read) (budgeted_completeStep read))
  · exact .done (.ite (budgeted_failA read) (budgeted_completeStep read))
  · exact .done (.ite (budgeted_failB read) (budgeted_completeStep read))
  · exact .done (.ite (budgeted_failB read) (budgeted_completeStep read))
  · exact .next h

theorem answerBudgeted_loadPulseEnd {current : Nat} (h : Budgeted s) : AnswerBudgeted (execLoadPulseEnd current s) := by
  unfold execLoadPulseEnd
  dsimp only
  split
  · exact .ite (.next h) (.done (.ite (budgeted_passA h) (budgeted_failA h)))
  · exact .ite (.next h) (.done (.ite (budgeted_passB h) (budgeted_failB h)))
  · exact .next h

theorem answerBudgeted_loadPulseTrip {current : Nat} (h : Budgeted s) : AnswerBudgeted (execLoadPulseTrip current s) := by
  unfold execLoadPulseTrip
  split
  · exact .ite (.done (budgeted_failA h)) (.next h)
  · exact .ite (.done (budgeted_failB h)) (.next h)
  · exact .next h

theorem answerBudgeted_lampPresenceTestEnd {pin vpack : Int} (h : Budgeted s) :
    AnswerBudgeted (execLampPresenceTestEnd pin vpack s) := by
  have absent {l : Lamp} {p : Pins} : Budgeted (lampAbsent l (s.setPins p)) :=
    budgeted_completeStep (budgeted_setMonitor (budgeted_setRecord (budgeted_setPins h)))
  unfold execLampPresenceTestEnd
  split
  · exact .ite (.next (budgeted_beginStep (budgeted_setPins h))) (.done absent)
  · exact .next h

theorem answerBudgeted_lampRatingEnd {mean : Nat} (h : Budgeted s) : AnswerBudgeted (execLampRatingEnd mean s) := by
  unfold execLampRatingEnd
  split
  · exact .done (budgeted_completeStep (budgeted_setMonitor (budgeted_setRecord h)))
  · exact .next h

theorem answerBudgeted_lampRatingShort {current : Nat} (h : Budgeted s) : AnswerBudgeted (execLampRatingShort current s) := by
  unfold execLampRatingShort
  split
  · exact .ite (.done (budgeted_completeStep (budgeted_withdrawLamp (budgeted_setRecord h)))) (.next h)
  · exact .next h

theorem budgeted_judgePair {left right : Nat} (h : Budgeted t) : Budgeted (judgePair left right t) := by
  have calibrated {s : State} {x : Steer} {f : CheckRecord → CheckRecord} (h : Budgeted s) :
      Budgeted (setRecord f (s.setSteer x)) := h
  have swept {x : Sweep} : Budgeted (t.setMonitor { t.monitor with sweep := x }) := h
  unfold judgePair
  exact .ite (budgeted_beginStep (calibrated (.ite (budgeted_raiseEvent swept) swept))) (budgeted_failB h)

theorem answerBudgeted_sweepStopFound {pot : Nat} (h : Budgeted s) : AnswerBudgeted (execSweepStopFound pot s) := by
  unfold execSweepStopFound
  dsimp only
  split
  · exact .next (budgeted_beginStep (budgeted_setMonitor (budgeted_setPins h)))
  · exact .done (budgeted_judgePair (budgeted_setPins h))
  · exact .next h

theorem answerBudgeted_sweepPhaseTimeout (h : Budgeted s) : AnswerBudgeted (execSweepPhaseTimeout s) := by
  unfold execSweepPhaseTimeout
  split
  · exact .done (budgeted_failB h)
  · exact .done (budgeted_failB h)
  · exact .next h

theorem answerBudgeted_sweepFault (h : Budgeted s) : AnswerBudgeted (execSweepFault s) := by
  unfold execSweepFault
  split
  · exact .done (budgeted_failB h)
  · exact .next h

theorem answerBudgeted_sweepReturnEnd (h : Budgeted s) : AnswerBudgeted (execSweepReturnEnd s) := by
  unfold execSweepReturnEnd
  split
  · exact .done (budgeted_completeStep (t := forceBridgeB .brake 0 s) h)
  · exact .next h

theorem answerBudgeted_supplyDip {vpack : Int} (h : Budgeted s) : AnswerBudgeted (execSupplyDip vpack s) := by
  unfold execSupplyDip
  exact .ite (.next h) (.next h)

theorem budgeted_thermalChange {before : ThermalClass} (h : BudgetedAs before t) : Budgeted (thermalChange before t) := by
  have acted := budgeted_thermalEffects h
  have rested {s : State} (h : Budgeted s) : Budgeted (restBridges s) := h
  unfold thermalChange checkThermal
  split
  · exact acted
  · exact .ite (budgeted_setMonitor (budgeted_setRecord (rested acted)))
      (.ite (.ite (budgeted_completeStep acted) (budgeted_beginStep acted)) acted)

theorem budgeted_tripB (h : Budgeted t) : Budgeted (tripB t) := by
  have off {w : Option Nat} {l : List Nat} : Budgeted ((offBridgeB t).setMonitor { (offBridgeB t).monitor with
      tripWait := w, tripHistory := l }) := h
  unfold tripB
  exact .ite (budgeted_addFault (budgeted_withdrawB (.ite (budgeted_setDrum off) off)))
    (budgeted_addFault (.ite (budgeted_setDrum off) off))

theorem answerBudgeted_bridgeBTrip {current : Nat} (h : Budgeted s) : AnswerBudgeted (execBridgeBTrip current s) :=
  .ite (.done (budgeted_tripB h)) (.next h)

/-- Both sensors are read under the cap of the class before, and the change of the class then acts on it (R96, R198). -/
theorem answerBudgeted_temperatureReading {ts1 die : Int} (h : Budgeted s) :
    AnswerBudgeted (execTemperatureReading ts1 die s) := by
  have presented {p : Pins} : BudgetedAs (thermalClass s) (s.setPins p) := h
  have timed {s : State} {c : ThermalClass} (h : BudgetedAs c s) :
      BudgetedAs c (s.setMonitor { s.monitor with tempTimer := 0 }) := h
  exact .done (budgeted_thermalChange (timed (budgetedAs_readSensor (budgetedAs_readSensor presented))))

theorem answerBudgeted_thermalSensorFault {x : Sensor} {reading : Int} (h : Budgeted s) :
    AnswerBudgeted (execThermalSensorFault x reading s) :=
  .ite (.done (budgeted_thermalChange (budgetedAs_failSensor h))) (.next h)

/-! ## Every command, and the step -/

theorem answerBudgeted_exec (c : Instr) (h : Budgeted s) : AnswerBudgeted (exec c s) := by
  cases c with
  | powerOnReset => exact .next (.of_zero rfl rfl)
  | busIdle => exact .next h
  | frameReceived bytes => exact answerBudgeted_frameReceived h
  | receptionFailed how => exact answerBudgeted_receptionFailed h
  | breakRecognised => exact answerBudgeted_breakRecognised h
  | attemptStart => exact answerBudgeted_attemptStart h
  | arbitrationLost => exact answerBudgeted_arbitrationLost h
  | lineFault => exact answerBudgeted_lineFault h
  | collision => exact answerBudgeted_collision h
  | backoffExpiry kind => exact .next h
  | attemptComplete => exact answerBudgeted_attemptComplete h
  | breakEnd => exact .next h
  | strapReadSuccess p => exact answerBudgeted_strapReadSuccess h
  | strapReadFail last => exact answerBudgeted_strapReadFail h
  | silenceTimerExpiry => exact answerBudgeted_silenceTimerExpiry h
  | defaultTimerExpiry => exact answerBudgeted_defaultTimerExpiry h
  | config => exact answerBudgeted_config h
  | assign => exact answerBudgeted_assign h
  | ownStationFrame => exact answerBudgeted_ownStationFrame h
  | conflictNoticeTimer => exact .next (.ite (budgeted_placeNotice h) h)
  | uptimeTick => exact .next h
  | reportTimerExpiry => exact .next (.ite (budgeted_placeReport h) h)
  | heldEventSpacingExpiry => exact .next (.ite (budgeted_placeReport h) h)
  | report => exact answerBudgeted_report h
  | peerLost station => exact answerBudgeted_peerLost h
  | winch => exact answerBudgeted_winch h
  | winchLinkExpiry => exact .next h
  | checkRecord => exact answerBudgeted_answerOk h
  | fault => exact answerBudgeted_fault h
  | winchLog => exact answerBudgeted_winchLog h
  | counters => exact answerBudgeted_answerOk h
  | image => exact answerBudgeted_answerOk h
  | budget => exact answerBudgeted_answerOk h
  | restart => exact answerBudgeted_restart h
  | recheck => exact answerBudgeted_recheck h
  | queryUnknownCode => exact answerBudgeted_queryUnknownCode h
  | command => exact answerBudgeted_command h
  | linkExpiry => exact answerBudgeted_linkExpiry h
  | failsafeStage2 => exact .ite (.next h) (.next h)
  | budgetTick r => exact answerBudgeted_budgetTick h
  | peerCutoffTest => exact answerBudgeted_peerCutoffTest h
  | actuatorTick pot isb => exact answerBudgeted_actuatorTick h
  | steerStall => exact answerBudgeted_steerStall h
  | stallLimitEnd => exact .next h
  | steerSensorLost pot => exact answerBudgeted_steerSensorLost h
  | driveTick isa => exact answerBudgeted_driveTick h
  | encoderEdge dir interval => exact answerBudgeted_encoderEdge h
  | encoderEdgeTimeout => exact .next (.ite h h)
  | encoderLost => exact .ite (.done (budgeted_loseEncoder h)) (.next h)
  | encoderRecovered => exact .next (.ite h h)
  | overcurrentTrip current => exact answerBudgeted_overcurrentTrip h
  | tripWaitEnd => exact .next h
  | controlTick isa isb => exact answerBudgeted_controlTick h
  | limitAcceptance sw0 sw1 => exact answerBudgeted_limitAcceptance h
  | engageDelayEnd => exact .ite (.done (budgeted_engageEnd h)) (.next h)
  | winchStall => exact .ite (.done (budgeted_endOperation h)) (.next h)
  | winchTimerExpiry => exact .next (.ite (budgeted_placeWinch h) h)
  | beatEvent => exact .next (.ite (budgeted_beatStep h) h)
  | beatTaken => exact answerBudgeted_beatTaken h
  | lampShort l current => exact .ite (.done (budgeted_withdrawLamp h)) (.next h)
  | supplyTestRetry vpack => exact answerBudgeted_supplyTestRetry h
  | pullTestEnd out vpack => exact answerBudgeted_pullTestEnd h
  | loadPulseEnd current => exact answerBudgeted_loadPulseEnd h
  | loadPulseTrip current => exact answerBudgeted_loadPulseTrip h
  | lampPresenceTestEnd pin vpack => exact answerBudgeted_lampPresenceTestEnd h
  | lampRatingEnd mean => exact answerBudgeted_lampRatingEnd h
  | lampRatingShort current => exact answerBudgeted_lampRatingShort h
  | sweepStopFound pot => exact answerBudgeted_sweepStopFound h
  | sweepPhaseTimeout => exact answerBudgeted_sweepPhaseTimeout h
  | sweepFault => exact answerBudgeted_sweepFault h
  | sweepReturnEnd => exact answerBudgeted_sweepReturnEnd h
  | supplyDip vpack => exact answerBudgeted_supplyDip h
  | bridgeBTrip current => exact answerBudgeted_bridgeBTrip h
  | bridgeBTripWaitEnd => exact .next h
  | temperatureReading ts1 die => exact answerBudgeted_temperatureReading h
  | thermalSensorFault x reading => exact answerBudgeted_thermalSensorFault h
  | frameStart => exact .next h
  | pwmPeriodBoundary => exact .next h

/-- Settles O11: every step keeps the grants, the allowance and the cap, command by command. -/
theorem stepKeepsAllowance : Obligations.StepKeepsAllowance := by
  unfold Obligations.StepKeepsAllowance
  intro s t inv run
  have h : Budgeted s := budgeted_iff.2 inv
  refine budgeted_iff.1 ?_
  unfold step at run
  split at run
  · cases run
    exact h
  next c rest _ =>
    have waiting : Budgeted (s.setPending rest) := h
    exact answerBudgeted_exec c waiting t run

end Sys2Proof.PowerSupervisor
end

section
/-! SUPPORT and THEOREM. The entry to CUTOFF, block by block (R101, R102), the break it drives (R19, R103), and a break heard
(R20, R104): O42. -/

namespace Sys2Proof.PowerSupervisor

open Sys2Proof Sys2Proof.Machine Sys2Proof.Safety
open Sys2Proof.NodeControl

variable {s t u : State} {cause : CutoffCause}

/-! ## The break (R19, R103) -/

/-- `t` is `s` but for what a break request changes: the attempt lost to it, the slots, the break and its mark. -/
def SameButBreak (s t : State) : Prop :=
  t = { s with bus := { s.bus with
    rx := { s.bus.rx with ownBreak := t.bus.rx.ownBreak }, slots := t.bus.slots
    tx := { s.bus.tx with attempt := t.bus.tx.attempt, breakLeft := t.bus.tx.breakLeft } } }

theorem sameButBreak_finishAttempt (s : State) : SameButBreak s (finishAttempt s) := by
  rw [TrailBus.finishAttempt_eq]
  cases lineKind s <;> rfl

theorem sameButBreak_requestBreak (s : State) : SameButBreak s (requestBreak s) := by
  have finished := sameButBreak_finishAttempt s
  rw [TrailBus.requestBreak_eq]
  split
  · rfl
  · unfold SameButBreak at finished ⊢
    rw [finished]
    rfl

/-- A break that runs goes on; else one of 30 bit times starts. -/
theorem requestBreak_breakLeft (s : State) :
    (requestBreak s).bus.tx.breakLeft = some (s.bus.tx.breakLeft.getD 30) := by
  rw [TrailBus.requestBreak_eq]
  cases running : s.bus.tx.breakLeft with
  | some n => exact running
  | none => rfl

/-- The break of an own cause; a cause heard from others sends none (Table 5-13). -/
def breakFor (cause : CutoffCause) (s : State) : State := if isOwnCause cause then requestBreak s else s

theorem isOwnCause_iff : isOwnCause cause = true ↔ cause = .ownCell ∨ cause = .ownPack := by
  cases cause <;> decide

theorem breakFor_own (own : isOwnCause cause = true) (s : State) : breakFor cause s = requestBreak s := if_pos own

theorem breakFor_foreign (foreign : isOwnCause cause = false) (s : State) : breakFor cause s = s :=
  if_neg (Bool.eq_false_iff.1 foreign)

theorem sameButBreak_breakFor (cause : CutoffCause) (s : State) : SameButBreak s (breakFor cause s) := by
  cases own : isOwnCause cause
  · rw [breakFor_foreign own]
    rfl
  · rw [breakFor_own own]
    exact sameButBreak_requestBreak s

theorem breakFor_breakLeft (cause : CutoffCause) (s : State) : (breakFor cause s).bus.tx.breakLeft =
    if cause = .ownCell ∨ cause = .ownPack then some (s.bus.tx.breakLeft.getD 30) else s.bus.tx.breakLeft := by
  cases own : isOwnCause cause
  · rw [breakFor_foreign own, if_neg (isOwnCause_iff.not.1 (Bool.eq_false_iff.1 own))]
  · rw [breakFor_own own, requestBreak_breakLeft, if_pos (isOwnCause_iff.1 own)]

/-! ## What the entry leaves (R101, R102, R176) -/

/-- The fault record of an entry to CUTOFF, with the state left. -/
def cutoffRecord (cause : CutoffCause) (s : State) : FaultRecord :=
  { kind := .cutoff, output := .none, state := s.node.state, uptime := s.node.uptime
    detail := clampInt (-32768) 32767 (cutoffCauseCode cause) }

theorem cutoffRecord_eq (cause : CutoffCause) (s : State) : cutoffRecord cause s =
    { kind := .cutoff, output := .none, state := s.node.state, uptime := s.node.uptime, detail := cutoffCauseCode cause } := by
  cases cause <;> rfl

/-- A channel dark, with CUTOFF pending on MARKER and TAILBRAKE (R176). -/
def darkChannel (s : State) (l : Lamp) : Channel :=
  { function := (s.lights.channels.get l).function, current := .off, staged := 0, active := 0
    pending := if functionOf s l = some .marker ∨ functionOf s l = some .tailbrake then some (.show .cutoff 64) else none }

/-- What follows going safe at the entry to CUTOFF, its event and its break apart. -/
def cutoffFrom (cause : CutoffCause) (r : FaultRecord) (s : State) : State :=
  { s with
    intake := clearedIntake s.intake.record
    node := { s.node with
      noticeTimer := none
      reportTimer := if s.node.position.isSome && s.node.reportTimer.isNone then some 0 else s.node.reportTimer }
    power := { s.power with cause := some cause }
    lights := { s.lights with channels := Quad.ofLamp (darkChannel s) }
    monitor := { s.monitor with faults := (r :: s.monitor.faults).take 8 } }

/-- CUTOFF as entered, the drum, the event and the break apart. -/
def cutoffEntered (cause : CutoffCause) (s : State) : State :=
  cutoffFrom cause (cutoffRecord cause s) (safeOutputs (movedOut .cutoff s))

theorem startReportTimer_eq (s : State) : startReportTimer s = s.setNode { s.node with
    reportTimer := if s.node.position.isSome && s.node.reportTimer.isNone then some 0 else s.node.reportTimer } := by
  unfold startReportTimer
  split <;> rfl

/-- The channels dark, the timers set, the cause and its record noted, on a state already safe. -/
theorem addFaultIn_darkened (cause : CutoffCause) (left : NodeState) (s : State) :
    let dark := darkenForCutoff (startReportTimer (clearIntake s))
    let quiet := dark.setNode { dark.node with noticeTimer := none }
    addFaultIn left .cutoff .none (cutoffCauseCode cause) (quiet.setPower { quiet.power with cause := some cause }) =
      raiseEvent .faultAdded (cutoffFrom cause
        { kind := .cutoff, output := .none, state := left, uptime := s.node.uptime
          detail := clampInt (-32768) 32767 (cutoffCauseCode cause) } s) := by
  dsimp only
  rw [startReportTimer_eq]
  rfl

/-- The entry before its break. -/
def cutoffRaised (cause : CutoffCause) (s : State) : State :=
  raiseEvent .faultAdded (cutoffFrom cause (cutoffRecord cause s) (goSafe .cutoff (movedOut .cutoff s)))

/-- A state that CUTOFF can be entered from. -/
def MayCutOff (s : State) : Prop := ¬ (s.node.state = .strap ∨ s.node.state = .cutoff)

theorem enterCutoff_eq (acts : MayCutOff s) : enterCutoff cause s = breakFor cause (cutoffRaised cause s) := by
  have uptime : (goSafe .cutoff (movedOut .cutoff s)).node.uptime = s.node.uptime :=
    (steady_goSafe (reason := .cutoff) (.refl (movedOut .cutoff s))).uptime
  have raised := addFaultIn_darkened cause s.node.state (goSafe .cutoff (movedOut .cutoff s))
  rw [uptime] at raised
  unfold enterCutoff
  rw [if_neg acts, abandonCheck_moveTo rfl]
  exact congrArg (breakFor cause) raised

theorem cutoffRaised_changes (cause : CutoffCause) (s : State) :
    SameButDrum (cutoffEntered cause s) (cutoffRaised cause s) := by
  have safe : SameButDrum (cutoffEntered cause s)
      (cutoffFrom cause (cutoffRecord cause s) (goSafe .cutoff (movedOut .cutoff s))) :=
    congrArg (cutoffFrom cause (cutoffRecord cause s)) (goSafe_changes .cutoff (movedOut .cutoff s))
  exact safe.trans (sameButDrum_raiseEvent _ _)

/-- `t` is `s` but for the winch unit, the event mark and what a break request changes. -/
def SameButWinchAndBreak (s t : State) : Prop :=
  t = { s with
    winch := t.winch
    node := { s.node with eventDue := t.node.eventDue }
    bus := { s.bus with
      rx := { s.bus.rx with ownBreak := t.bus.rx.ownBreak }, slots := t.bus.slots
      tx := { s.bus.tx with attempt := t.bus.tx.attempt, breakLeft := t.bus.tx.breakLeft } } }

theorem SameButDrum.andBreak (h : SameButDrum s t) (k : SameButBreak t u) : SameButWinchAndBreak s u := by
  unfold SameButDrum at h
  unfold SameButBreak at k
  rw [h] at k
  unfold SameButWinchAndBreak
  rw [k]

/-- All that entering CUTOFF changes, the drum, the event and the break left open. -/
theorem enterCutoff_changes (acts : MayCutOff s) : SameButWinchAndBreak (cutoffEntered cause s) (enterCutoff cause s) := by
  rw [enterCutoff_eq acts]
  exact SameButDrum.andBreak (cutoffRaised_changes cause s) (sameButBreak_breakFor cause _)

theorem heldSafe_enterCutoff (acts : MayCutOff s) :
    HeldSafe (safeHold s.monitor.withdrawn.bridgeA s.monitor.holdA (roleOf s)) (enterCutoff cause s) := by
  rw [enterCutoff_changes acts]
  exact heldSafe_of_same (heldSafe_safeOutputs (s := movedOut .cutoff s) nofun)

theorem enterCutoff_breakLeft (acts : MayCutOff s) : (enterCutoff cause s).bus.tx.breakLeft =
    if cause = .ownCell ∨ cause = .ownPack then some (s.bus.tx.breakLeft.getD 30) else s.bus.tx.breakLeft := by
  have tx : (cutoffRaised cause s).bus.tx = s.bus.tx := by
    have raised := cutoffRaised_changes cause s
    unfold SameButDrum at raised
    rw [raised]
    rfl
  rw [enterCutoff_eq acts, breakFor_breakLeft, tx]

/-- The winch unit as going safe leaves it (R162). -/
theorem enterCutoff_winch (acts : MayCutOff s) :
    (enterCutoff cause s).winch = (releaseDrum .cutoff (endTripWaitB (clearSteer (movedOut .cutoff s)))).winch := by
  have broken (u : State) : (breakFor cause u).winch = u.winch := by rw [sameButBreak_breakFor cause u]
  have noted (r : FaultRecord) (u : State) : (cutoffFrom cause r u).winch = u.winch := rfl
  have held (u : State) : (holdBridgeA u).winch = u.winch := rfl
  rw [enterCutoff_eq acts, broken, cutoffRaised, CommandIntake.raiseEvent_winch, noted, goSafe, held]

theorem enterCutoff_drum (acts : MayCutOff s) (winch : roleOf s = .winch) :
    (enterCutoff cause s).winch.drum = (if s.winch.drum = .withdrawn then .withdrawn else .braked) ∧
    (enterCutoff cause s).winch.op = none := by
  have role : roleOf (endTripWaitB (clearSteer (movedOut .cutoff s))) = .winch := winch
  rw [enterCutoff_winch acts]
  exact ⟨CommandIntake.releaseDrum_drum .cutoff role, CommandIntake.releaseDrum_op .cutoff role⟩

/-- Entering CUTOFF on a cause that sends no break changes what an entry may. -/
theorem sameButEntry_enterCutoff (foreign : isOwnCause cause = false) :
    SameButEntry { s with power := { s.power with cause := (enterCutoff cause s).power.cause } } (enterCutoff cause s) := by
  by_cases stays : s.node.state = .strap ∨ s.node.state = .cutoff
  · rw [enterCutoff_stays cause stays]
    rfl
  · have raised := cutoffRaised_changes cause s
    have caused : (cutoffRaised cause s).power.cause = some cause := by
      unfold SameButDrum at raised
      rw [raised]
      rfl
    rw [enterCutoff_eq stays, breakFor_foreign foreign, caused]
    exact sameButEntry_trans (t := cutoffEntered cause s) rfl (sameButEntry_of_drum raised)

/-! ## A break heard (R20, R104) -/

/-- The receiver as a break leaves it. -/
def brokenInto (s : State) : State :=
  { s with bus := { s.bus with rx := { s.bus.rx with
      state := .hunt, recessiveRun := 0, dominantRun := 20, exempt := false, echo := false, ownBreak := false } } }

/-- The run holds a bit time of the node's own break. -/
theorem execBreakRecognised_own (own : s.bus.rx.ownBreak = true ∨ s.bus.tx.breakLeft ≠ none) :
    execBreakRecognised s = .next (brokenInto s) := by
  refine if_pos ?_
  rw [Bool.or_eq_true, Option.isSome_iff_ne_none]
  exact own

theorem execBreakRecognised_heard (heard : ¬ (s.bus.rx.ownBreak = true ∨ s.bus.tx.breakLeft ≠ none)) :
    execBreakRecognised s = .next (settle (enterCutoff .breakHeard (brokenInto s))) := by
  refine if_neg ?_
  rw [Bool.or_eq_true, Option.isSome_iff_ne_none]
  exact heard

theorem settle_power (s : State) : (settle s).power = s.power := by
  rw [sameButReport_settle s]

theorem settle_monitor (s : State) : (settle s).monitor = s.monitor := by
  rw [sameButReport_settle s]

theorem settle_state (s : State) : (settle s).node.state = s.node.state := by
  rw [sameButReport_settle s]

theorem settle_breakLeft (s : State) : (settle s).bus.tx.breakLeft = s.bus.tx.breakLeft := by
  rw [sameButReport_settle s]

theorem heldSafe_settle {m : BridgeMode} (h : HeldSafe m s) : HeldSafe m (settle s) := by
  rw [sameButReport_settle s]
  exact h

/-- CUTOFF entered and its events settled: the frame of the whole step. -/
theorem sameButEntry_settle_enterCutoff (foreign : isOwnCause cause = false) :
    SameButEntry { s with power := { s.power with cause := (settle (enterCutoff cause s)).power.cause } }
      (settle (enterCutoff cause s)) := by
  rw [settle_power]
  exact sameButEntry_trans (sameButEntry_enterCutoff foreign) (sameButEntry_of_report (sameButReport_settle _))

theorem enterCutoff_bus (foreign : isOwnCause cause = false) :
    (enterCutoff cause s).bus = { s.bus with slots := (enterCutoff cause s).bus.slots } := by
  have entry := sameButEntry_enterCutoff (s := s) foreign
  unfold SameButEntry at entry
  rw [entry]

theorem brokenInto_report (stays : s.node.state = .strap ∨ s.node.state = .cutoff) :
    SameButReport (brokenInto s) (settle (enterCutoff .breakHeard (brokenInto s))) := by
  rw [enterCutoff_stays .breakHeard (s := brokenInto s) stays]
  exact sameButReport_settle _

/-- Settles O42: the entry block by block from what it changes, and BREAK_RECOGNISED by whose break it was. -/
theorem cutoffEntryHoldsTheOutputs : Obligations.CutoffEntryHoldsTheOutputs := by
  unfold Obligations.CutoffEntryHoldsTheOutputs
  refine ⟨fun cause s unstrapped uncut => ?entry, fun s => ?heard⟩
  case entry =>
    have acts : MayCutOff s := not_or.2 ⟨unstrapped, uncut⟩
    have changes := enterCutoff_changes (cause := cause) acts
    have held := heldSafe_enterCutoff (cause := cause) acts
    have drum := enterCutoff_drum (cause := cause) acts
    have breakLeft := enterCutoff_breakLeft (cause := cause) acts
    have channels (l : Lamp) : (enterCutoff cause s).lights.channels.get l = darkChannel s l := by
      rw [changes]
      exact TrailBus.Quad_get_ofLamp _ l
    have faults : (enterCutoff cause s).monitor.faults = (cutoffRecord cause s :: s.monitor.faults).take 8 := by
      rw [changes]
      rfl
    rw [cutoffRecord_eq] at faults
    dsimp only
    refine ⟨?_, ?_, ?_, ?_, ?_, ?_, ?_, ?_, held, ?_, drum, ?_, ?_, ?_, faults, ?_, channels, ?_, ?_, ?_, breakLeft⟩
    all_goals
      rw [changes]
      rfl
  case heard =>
    show ∃ t, execBreakRecognised s = .next t ∧ _
    by_cases own : s.bus.rx.ownBreak = true ∨ s.bus.tx.breakLeft ≠ none
    · refine ⟨_, execBreakRecognised_own own, rfl, rfl, rfl, rfl, rfl, ?_⟩
      rw [if_pos own]
      rfl
    · have bus : (settle (enterCutoff .breakHeard (brokenInto s))).bus = { s.bus with
          rx := (brokenInto s).bus.rx, slots := (settle (enterCutoff .breakHeard (brokenInto s))).bus.slots } := by
        rw [sameButReport_settle, enterCutoff_bus rfl]
        rfl
      have entry := sameButEntry_settle_enterCutoff (cause := .breakHeard) (s := brokenInto s) rfl
      refine ⟨_, execBreakRecognised_heard own, ?_⟩
      rw [bus]
      refine ⟨entry, rfl, rfl, rfl, rfl, ?_⟩
      rw [if_neg own]
      by_cases stays : s.node.state = .strap ∨ s.node.state = .cutoff
      · rw [if_pos stays]
        exact brokenInto_report stays
      · rw [if_neg stays, settle_state, settle_power, settle_monitor]
        have acts : MayCutOff (brokenInto s) := stays
        have held := heldSafe_settle (heldSafe_enterCutoff (cause := .breakHeard) acts)
        have changes := enterCutoff_changes (cause := .breakHeard) acts
        refine ⟨?_, ?_, ?_, held⟩
        all_goals
          rw [changes]
          rfl

end Sys2Proof.PowerSupervisor
end

section
/-! SUPPORT and THEOREM. The budget tick: the level and the causes of CUTOFF (R83 to R90), and the grants of its allowance
(R99): O40 and O41. -/

namespace Sys2Proof.PowerSupervisor

open Sys2Proof Sys2Proof.Machine Sys2Proof.Safety
open Sys2Proof.NodeControl

variable {s t u : State} {r : BudgetReadings} {i : Image} {p q : Power}

/-! ## The level (R83 to R88) -/

/-- The falling counters and the hard_min counter move, and the rise counter with the level; the rest of the record stands. -/
theorem stageLevel4_eq (i : Image) (p : Power) : stageLevel4 i p = { p with
    level := (stageLevel4 i p).level, imbalance := imbalanceNow i p
    dwell := { fallingDwell i p with rise := (stageLevel4 i p).dwell.rise } } := by
  unfold stageLevel4
  dsimp only
  split
  · rfl
  · split
    · split <;> rfl
    · rfl

theorem dwellStep_eq (top : Nat) (meets : Bool) (n : Nat) :
    dwellStep top meets n = if meets = true then min top (n + 1) else 0 := by
  unfold dwellStep
  rw [bumpTo_eq_min]

theorem dwellStep_decide (top : Nat) (meets : Prop) [Decidable meets] (n : Nat) :
    dwellStep top (decide meets) n = if meets then min top (n + 1) else 0 := by
  simp only [dwellStep_eq, decide_eq_true_eq]

/-- The level before a rise (R83, R87, R88). -/
def fellTo (i : Image) (p : Power) : Protection :=
  if (fallingDwell i p).hardMin = 10 ∨ (fallingDwell i p).cutoff = 100 then .cutoff
  else if (fallingDwell i p).limp = 25 ∧ levelRank p.level < 2 then .limp
  else if p.level = .normal ∧ ((fallingDwell i p).derate = 25 ∨ imbalanceNow i p = true) then .derate
  else p.level

theorem levelRank_lt_two (l : Protection) : levelRank l < 2 ↔ l = .normal ∨ l = .derate := by
  cases l <;> decide

theorem fallenLevel_eq (i : Image) (p : Power) :
    fallenLevel (fallingDwell i p) (imbalanceNow i p) p.level = fellTo i p := by
  simp only [fellTo, levelRank_lt_two]
  rfl

/-- A tick at which the rise counter moves: the level has not fallen, and a level below NORMAL meets its condition (R84). -/
def Rises (i : Image) (p : Power) : Prop :=
  fellTo i p = p.level ∧
    ((p.level = .derate ∧ i.power.derate + i.power.hysteresis ≤ p.cellFigure ∧ imbalanceNow i p = false) ∨
      (p.level = .limp ∧ i.power.limp + i.power.hysteresis ≤ p.cellFigure))

theorem risesNow_iff (i : Image) (p : Power) : risesNow i p (imbalanceNow i p) p.level = true ↔
    (p.level = .derate ∧ i.power.derate + i.power.hysteresis ≤ p.cellFigure ∧ imbalanceNow i p = false) ∨
      (p.level = .limp ∧ i.power.limp + i.power.hysteresis ≤ p.cellFigure) := by
  cases p.level <;> simp [risesNow]

/-- A level that rises is LIMP or DERATE. -/
theorem Rises.levelUp (h : Rises i p) : levelUp p.level = if p.level = .limp then .derate else .normal := by
  obtain ⟨_, ⟨derate, _⟩ | ⟨limp, _⟩⟩ := h
  · rw [derate]
    rfl
  · rw [limp]
    rfl

/-- The level of stage 4 and its rise counter: a fall and a tick that does not qualify reset the counter, the 200th that does
raises the level. -/
theorem stageLevel4_cases (i : Image) (p : Power) :
    (¬ Rises i p ∧ (stageLevel4 i p).level = fellTo i p ∧ (stageLevel4 i p).dwell.rise = 0) ∨
    (Rises i p ∧ 199 ≤ p.dwell.rise ∧ (stageLevel4 i p).level = levelUp p.level ∧ (stageLevel4 i p).dwell.rise = 0) ∨
    (Rises i p ∧ p.dwell.rise < 199 ∧ (stageLevel4 i p).level = fellTo i p ∧
      (stageLevel4 i p).dwell.rise = p.dwell.rise + 1) := by
  have stage : stageLevel4 i p = if fellTo i p ≠ p.level then
        { p with level := fellTo i p, imbalance := imbalanceNow i p, dwell := { fallingDwell i p with rise := 0 } }
      else if risesNow i p (imbalanceNow i p) (fellTo i p) then
        if 200 ≤ p.dwell.rise + 1 then
          { p with
            level := levelUp (fellTo i p), imbalance := imbalanceNow i p, dwell := { fallingDwell i p with rise := 0 } }
        else { p with imbalance := imbalanceNow i p, dwell := { fallingDwell i p with rise := p.dwell.rise + 1 } }
      else { p with imbalance := imbalanceNow i p, dwell := { fallingDwell i p with rise := 0 } } := by
    rw [← fallenLevel_eq]
    rfl
  rw [stage]
  by_cases stands : fellTo i p = p.level
  · rw [if_neg (not_not.2 stands), stands]
    by_cases rises : Rises i p
    · rw [if_pos ((risesNow_iff i p).2 rises.2)]
      by_cases last : 199 ≤ p.dwell.rise
      · rw [if_pos (Nat.succ_le_succ last)]
        exact .inr (.inl ⟨rises, last, rfl, rfl⟩)
      · rw [if_neg (by omega)]
        exact .inr (.inr ⟨rises, by omega, rfl, rfl⟩)
    · rw [if_neg fun now => rises ⟨stands, (risesNow_iff i p).1 now⟩]
      exact .inl ⟨rises, rfl, rfl⟩
  · rw [if_pos stands]
    exact .inl ⟨fun rises => stands rises.1, rfl, rfl⟩

theorem stageLevel4_level (i : Image) (p : Power) {_ : Decidable (Rises i p ∧ 199 ≤ p.dwell.rise)} :
    (stageLevel4 i p).level =
      if Rises i p ∧ 199 ≤ p.dwell.rise then (if p.level = .limp then .derate else .normal) else fellTo i p := by
  rcases stageLevel4_cases i p with ⟨still, level, _⟩ | ⟨rises, last, level, _⟩ | ⟨_, early, level, _⟩
  · rw [level, if_neg fun h => still h.1]
  · rw [level, if_pos ⟨rises, last⟩, rises.levelUp]
  · rw [level, if_neg fun h => absurd h.2 (by omega)]

theorem stageLevel4_rise (i : Image) (p : Power) {_ : Decidable (Rises i p ∧ p.dwell.rise < 199)} :
    (stageLevel4 i p).dwell.rise = if Rises i p ∧ p.dwell.rise < 199 then p.dwell.rise + 1 else 0 := by
  rcases stageLevel4_cases i p with ⟨still, _, rise⟩ | ⟨_, last, _, rise⟩ | ⟨rises, early, _, rise⟩
  · rw [rise, if_neg fun h => still h.1]
  · rw [rise, if_neg fun h => absurd h.2 (by omega)]
  · rw [rise, if_pos ⟨rises, early⟩]

/-! ## The causes of CUTOFF (R85, R87, R90) -/

theorem freshnessOf_eq_fresh (age : Nat) : freshnessOf age = .fresh ↔ age ≤ 60 := by
  unfold freshnessOf
  split
  · simp [*]
  · split <;> simp [*]

/-- A peer in CUTOFF, as O41 spells it over the table. -/
def peersInCutoff (s : State) : Bool :=
  s.peers.table.any fun e => e.age ≤ 60 && (e.level = .cutoff || e.state = .cutoff)

theorem peerInCutoff_eq (s : State) : peerInCutoff s.peers = peersInCutoff s := by
  simp only [peerInCutoff, freshPeers, List.any_filter, freshnessOf_eq_fresh, peersInCutoff]

/-- The state after stage 4, with the level-change event of a change. -/
def levelled (s : State) : State :=
  let u := s.setPower (stageLevel4 (fieldsOf s) s.power)
  if (stageLevel4 (fieldsOf s) s.power).level = s.power.level then u else raiseEvent .levelChange u

/-- The cause that a tick acts on: an own one first, then a peer's. -/
def tickCause (s : State) : Option CutoffCause :=
  (ownCause (stageLevel4 (fieldsOf s) s.power).dwell).or (if peersInCutoff s then some .peer else none)

theorem levelled_frame (s : State) : levelled s = (s.setPower (stageLevel4 (fieldsOf s) s.power)).setNode
    { s.node with eventDue := (levelled s).node.eventDue } := by
  unfold levelled
  dsimp only
  split
  · rfl
  · rw [raiseEvent_frame]
    rfl

/-- A node in CUTOFF, or held in STRAP, acts on no further cause. -/
theorem cutoffOn_stays (c : Option CutoffCause) (stays : s.node.state = .strap ∨ s.node.state = .cutoff) :
    cutoffOn c s = s := by
  cases c with
  | none => rfl
  | some c => exact enterCutoff_stays c stays

theorem stageJudge_eq (s : State) : stageJudge s = cutoffOn (tickCause s) (levelled s) := by
  have judged : stageJudge s = cutoffOn (if peerInCutoff (cutoffOn (ownCause (stageLevel4 (fieldsOf s) s.power).dwell)
      (levelled s)).peers then some .peer else none)
      (cutoffOn (ownCause (stageLevel4 (fieldsOf s) s.power).dwell) (levelled s)) := rfl
  rw [judged]
  unfold tickCause
  cases ownCause (stageLevel4 (fieldsOf s) s.power).dwell with
  | some c =>
    have left : (enterCutoff c (levelled s)).node.state = .strap ∨ (enterCutoff c (levelled s)).node.state = .cutoff := by
      rw [enterCutoff_state]
      split
      · exact .inl rfl
      · exact .inr rfl
    exact cutoffOn_stays _ left
  | none =>
    have peers : peerInCutoff (levelled s).peers = peersInCutoff s := by
      rw [levelled_frame]
      exact peerInCutoff_eq s
    rw [Option.none_or, ← peers]
    rfl

/-- Of the record an entry to CUTOFF changes the allowance, the grants and the cause. -/
def SameButFunds (p q : Power) : Prop := q = { p with allowance := q.allowance, grants := q.grants, cause := q.cause }

theorem sameButFunds_cutoffOn (c : Option CutoffCause) (s : State) : SameButFunds s.power (cutoffOn c s).power := by
  cases c with
  | none => rfl
  | some c =>
    show SameButFunds s.power (enterCutoff c s).power
    by_cases stays : s.node.state = .strap ∨ s.node.state = .cutoff
    · rw [enterCutoff_stays c stays]
      rfl
    · rw [enterCutoff_changes stays]
      rfl

/-- The node after the judgement of a tick: it enters CUTOFF on an own cause with a break, on a peer's without one. -/
structure Judged (s t : State) (c : Option CutoffCause) : Prop where
  state : t.node.state = if c.isSome then .cutoff else s.node.state
  cause : t.power.cause = c.or s.power.cause
  breakLeft : t.bus.tx.breakLeft =
    if c = some .ownCell ∨ c = some .ownPack then some (s.bus.tx.breakLeft.getD 30) else s.bus.tx.breakLeft

theorem judged_cutoffOn (c : Option CutoffCause) (acts : MayCutOff s) : Judged s (cutoffOn c s) c := by
  cases c with
  | none => exact ⟨rfl, rfl, rfl⟩
  | some c =>
    have changes := enterCutoff_changes (cause := c) acts
    refine ⟨?_, ?_, ?_⟩
    · show (enterCutoff c s).node.state = .cutoff
      rw [changes]
      rfl
    · show (enterCutoff c s).power.cause = some c
      rw [changes]
      rfl
    · simp only [Option.some.injEq]
      exact enterCutoff_breakLeft acts

theorem judged_stageJudge (acts : MayCutOff s) : Judged s (stageJudge s) (tickCause s) := by
  have levels := levelled_frame s
  have kept : MayCutOff (levelled s) := by
    rw [levels]
    exact acts
  have judged := judged_cutoffOn (tickCause s) kept
  have state : (levelled s).node.state = s.node.state := by rw [levels]; rfl
  have cause : (levelled s).power.cause = s.power.cause := by
    rw [levels]
    show (stageLevel4 _ _).cause = _
    rw [stageLevel4_eq]
  have tx : (levelled s).bus = s.bus := by rw [levels]; rfl
  rw [stageJudge_eq]
  exact ⟨state ▸ judged.state, cause ▸ judged.cause, tx ▸ judged.breakLeft⟩

/-- The record after the judgement is that of stage 4 but for what entering CUTOFF sets. -/
theorem sameButFunds_stageJudge (s : State) : SameButFunds (stageLevel4 (fieldsOf s) s.power) (stageJudge s).power := by
  have funds := sameButFunds_cutoffOn (tickCause s) (levelled s)
  have power : (levelled s).power = stageLevel4 (fieldsOf s) s.power := by rw [levelled_frame]; rfl
  rw [power] at funds
  rw [stageJudge_eq]
  exact funds

/-! ## The whole tick -/

/-- Of the record the share of a tick writes its own figures alone (R89 to R95, R99). -/
def SameButShare (p q : Power) : Prop :=
  q = { p with
    tickLevel := q.tickLevel, avail := q.avail, missing := q.missing, absentShare := q.absentShare
    sumDemand := q.sumDemand, overdraw := q.overdraw, allowance := q.allowance, grants := q.grants }

theorem sameButShare_stageShare (l : Protection) (s : State) : SameButShare s.power (stageShare l s).power := rfl

/-- The state that the judgement of a tick finds, stages 0 to 3 done. -/
def packed (r : BudgetReadings) (s : State) : State := stagePack (stageReadings r (presentReadings r s))

/-- The end of a tick of a running supervisor. -/
def ticked (r : BudgetReadings) (s : State) : State :=
  settle (clearMarks (stageShare (effectiveLevel (presentReadings r s)) (stageJudge (packed r s))))

theorem execBudgetTick_running (running : s.power.running = true) : execBudgetTick r s = .next (ticked r s) := if_pos running

/-- The grants are divided as the last stage of the tick (R99). -/
theorem stageShare_grants (l : Protection) (s : State) : (stageShare l s).power.grants =
    divideGrants (stageShare l s).power.allowance (stageShare l s).power.demands := rfl

theorem ticked_power (r : BudgetReadings) (s : State) : (ticked r s).power =
    (stageShare (effectiveLevel (presentReadings r s)) (stageJudge (packed r s))).power := by
  have marked (u : State) : (clearMarks u).power = u.power := rfl
  rw [ticked, settle_power, marked]

/-- Settles O40: the grants of a tick are its allowance divided in the order of Table 5-6. -/
theorem grantsFollowTheOrder : Obligations.GrantsFollowTheOrder := by
  unfold Obligations.GrantsFollowTheOrder
  intro r s running
  refine ⟨_, execBudgetTick_running running, ?_⟩
  have grants : (ticked r s).power.grants = divideGrants (ticked r s).power.allowance (ticked r s).power.demands := by
    rw [ticked_power]
    exact stageShare_grants _ _
  obtain ⟨bridgeB, required, bridgeA, aux, sum⟩ :=
    divideGrants_spec (ticked r s).power.allowance (ticked r s).power.demands
  rw [← grants] at bridgeB required bridgeA aux sum
  dsimp only
  generalize (ticked r s).power = p at *
  exact ⟨bridgeB, required, bridgeA, aux, by omega, by omega, by omega, sum, by omega⟩

/-- What the judgement of a tick leaves of the record: stage 4 of the figures of stages 0 to 3. -/
structure Levels (i : Image) (p q : Power) : Prop where
  level : q.level = (stageLevel4 i p).level
  dwell : q.dwell = { fallingDwell i p with rise := (stageLevel4 i p).dwell.rise }
  imbalance : q.imbalance = imbalanceNow i p
  cells : q.cells = p.cells
  drop : q.drop = p.drop
  cellFigure : q.cellFigure = p.cellFigure

theorem levels_ticked (r : BudgetReadings) (s : State) : Levels (fieldsOf s) (packed r s).power (ticked r s).power := by
  have share := sameButShare_stageShare (effectiveLevel (presentReadings r s)) (stageJudge (packed r s))
  have funds : SameButFunds (stageLevel4 (fieldsOf s) (packed r s).power) (stageJudge (packed r s)).power :=
    sameButFunds_stageJudge (packed r s)
  have stage := stageLevel4_eq (fieldsOf s) (packed r s).power
  unfold SameButShare at share
  unfold SameButFunds at funds
  rw [ticked_power, share, funds, stage]
  exact ⟨rfl, rfl, rfl, rfl, rfl, rfl⟩

/-- The node and its break at the end of a tick, from the cause that the tick acts on. -/
theorem judged_ticked (acts : MayCutOff s) : Judged s (ticked r s) (tickCause (packed r s)) := by
  have judged := judged_stageJudge (s := packed r s) acts
  have state (l : Protection) (u : State) : (clearMarks (stageShare l u)).node.state = u.node.state := rfl
  have tx (l : Protection) (u : State) : (clearMarks (stageShare l u)).bus.tx = u.bus.tx := rfl
  have cause (l : Protection) (u : State) : (stageShare l u).power.cause = u.power.cause := rfl
  refine ⟨?_, ?_, ?_⟩
  · rw [ticked, settle_state, state]
    exact judged.state
  · rw [ticked_power, cause]
    exact judged.cause
  · rw [ticked, settle_breakLeft, tx]
    exact judged.breakLeft

/-- Hard_min is taken first, then the pack's cutoff (R85, R87), then a peer (R90). -/
theorem tickCause_eq (s : State) : tickCause s =
    if (fallingDwell (fieldsOf s) s.power).hardMin = 10 then some .ownCell
    else if (fallingDwell (fieldsOf s) s.power).cutoff = 100 then some .ownPack
    else if peersInCutoff s then some .peer else none := by
  unfold tickCause ownCause
  rw [stageLevel4_eq]
  dsimp only
  split
  · rfl
  · split <;> rfl

/-- The judgement in the words of O41. -/
theorem judged_cases (acts : MayCutOff s) :
    let d := fallingDwell (fieldsOf s) (packed r s).power
    if d.hardMin = 10 ∨ d.cutoff = 100 then
      (ticked r s).node.state = .cutoff ∧ (ticked r s).bus.tx.breakLeft = some (s.bus.tx.breakLeft.getD 30) ∧
      (ticked r s).power.cause = some (if d.hardMin = 10 then .ownCell else .ownPack)
    else if peersInCutoff s then
      (ticked r s).node.state = .cutoff ∧ (ticked r s).power.cause = some .peer ∧
      (ticked r s).bus.tx.breakLeft = s.bus.tx.breakLeft
    else (ticked r s).node.state = s.node.state ∧ (ticked r s).power.cause = s.power.cause := by
  have judged := judged_ticked (r := r) acts
  have acted : tickCause (packed r s) = _ := tickCause_eq (packed r s)
  dsimp only
  by_cases cell : (fallingDwell (fieldsOf s) (packed r s).power).hardMin = 10
  · rw [acted.trans (if_pos cell)] at judged
    rw [if_pos (.inl cell), if_pos cell]
    exact ⟨judged.state, judged.breakLeft, judged.cause⟩
  by_cases pack : (fallingDwell (fieldsOf s) (packed r s).power).cutoff = 100
  · rw [acted.trans ((if_neg cell).trans (if_pos pack))] at judged
    rw [if_pos (.inr pack), if_neg cell]
    exact ⟨judged.state, judged.breakLeft, judged.cause⟩
  rw [if_neg (not_or.2 ⟨cell, pack⟩)]
  by_cases peer : peersInCutoff s
  · rw [acted.trans ((if_neg cell).trans ((if_neg pack).trans (if_pos peer)))] at judged
    rw [if_pos peer]
    exact ⟨judged.state, judged.cause, judged.breakLeft⟩
  · rw [acted.trans ((if_neg cell).trans ((if_neg pack).trans (if_neg peer)))] at judged
    rw [if_neg peer]
    exact ⟨judged.state, judged.cause⟩

/-- The pack monitor alone has a cell record (R86). -/
theorem readCells_isSome (s : State) (cells : Quad Nat) : (readCells s cells).isSome ↔ s.node.packMonitor = true := by
  unfold readCells
  split
  next monitors => exact iff_of_true rfl monitors
  next other => exact iff_of_false nofun other

theorem packed_cells (r : BudgetReadings) (s : State) : (packed r s).power.cells.isSome ↔ s.node.packMonitor = true :=
  readCells_isSome _ r.cells

/-! ## PEER_CUTOFF_TEST (R90) -/

/-- The test's timer restarted. -/
def retimed (s : State) : State := { s with power := { s.power with timer := 0 } }

theorem execPeerCutoffTest_running (running : s.power.running = true) : execPeerCutoffTest s = .next s := if_pos running

theorem execPeerCutoffTest_stopped (stopped : ¬ s.power.running = true) : execPeerCutoffTest s =
    .next (settle (if peersInCutoff s then enterCutoff .peer (retimed s) else retimed s)) := by
  rw [← peerInCutoff_eq]
  exact if_neg stopped

/-- A peer in CUTOFF puts the node there, but in STRAP and CUTOFF nothing follows. -/
theorem peerCutoffTest_acts (peer : peersInCutoff s ∧ s.node.state ≠ .strap ∧ s.node.state ≠ .cutoff) :
    (if peersInCutoff s then enterCutoff .peer (retimed s) else retimed s) = enterCutoff .peer (retimed s) := if_pos peer.1

theorem peerCutoffTest_rests (rests : ¬ (peersInCutoff s ∧ s.node.state ≠ .strap ∧ s.node.state ≠ .cutoff)) :
    (if peersInCutoff s then enterCutoff .peer (retimed s) else retimed s) = retimed s := by
  split
  next peer =>
    refine enterCutoff_stays .peer (s := retimed s) ?_
    by_contra acts
    exact rests ⟨peer, not_or.1 acts⟩
  next => rfl

/-- Settles O41: the levels by the record that stage 4 leaves, the causes by the judgement, and the test of a stopped
supervisor. -/
theorem levelsFallToCutoff : Obligations.LevelsFallToCutoff := by
  unfold Obligations.LevelsFallToCutoff
  refine ⟨fun r s => ?tick, fun s => ?test⟩
  case tick =>
    by_cases running : s.power.running = true
    · refine ⟨_, execBudgetTick_running running, ?_⟩
      have levels := levels_ticked r s
      -- The record of the tick in the terms of stage 4, whose laws are then the clauses in their order.
      dsimp only
      rw [levels.level, levels.dwell, levels.imbalance, levels.cells, levels.drop, levels.cellFigure]
      exact fun _ => ⟨dwellStep_decide .., dwellStep_decide .., dwellStep_decide .., dwellStep_eq .., rfl, packed_cells r s,
        stageLevel4_level .., stageLevel4_rise .., fun unstrapped uncut => judged_cases (not_or.2 ⟨unstrapped, uncut⟩)⟩
    · exact ⟨_, if_neg running, fun runs => absurd runs running⟩
  case test =>
    show ∃ t, execPeerCutoffTest s = .next t ∧ _
    by_cases running : s.power.running = true
    · refine ⟨s, execPeerCutoffTest_running running, rfl, ?_⟩
      rw [if_pos running]
    refine ⟨_, execPeerCutoffTest_stopped running, ?_⟩
    rw [if_neg running]
    by_cases peer : peersInCutoff s ∧ s.node.state ≠ .strap ∧ s.node.state ≠ .cutoff
    · have acts : MayCutOff (retimed s) := not_or.2 peer.2
      have changes := enterCutoff_changes (cause := .peer) acts
      have timer : (settle (enterCutoff .peer (retimed s))).power.timer = 0 := by
        rw [settle_power, changes]
        rfl
      rw [peerCutoffTest_acts peer]
      refine ⟨?_, ?_⟩
      · rw [timer]
        exact sameButEntry_settle_enterCutoff (s := retimed s) rfl
      · refine (if_pos peer).mpr ?_
        rw [settle_state, settle_power, settle_breakLeft, settle_intake, enterCutoff_breakLeft acts]
        refine ⟨?_, ?_, rfl, ?_, heldSafe_settle (heldSafe_enterCutoff acts)⟩
        all_goals
          rw [changes]
          rfl
    · rw [peerCutoffTest_rests peer]
      refine ⟨?_, (if_neg peer).mpr rfl⟩
      rw [settle_power]
      exact sameButEntry_of_report (sameButReport_settle (retimed s))

end Sys2Proof.PowerSupervisor
end

section
/-! SUPPORT and THEOREM. The tangent table and its inverse (R112, R113). -/

namespace Sys2Proof.Steering

open Sys2Proof Sys2Proof.Machine Sys2Proof.Safety

/-! ## The tangent -/

/-- An angle of `i` steps and a rest interpolates between the entries `i` and `i + 1` (R112). -/
theorem tanOf_step {i f : Nat} (step : i < 15) (rest : f < 30) : tanOf (30 * i + f) =
    tangents.getD i 0 + ((tangents.getD (i + 1) 0 - tangents.getD i 0) * f + 15) / 30 := by
  have quotient : (30 * i + f) / 30 = i := by omega
  have remainder : (30 * i + f) % 30 = f := by omega
  have held (j : Nat) (inTable : j < 16) : tangents.getD j 4096 = tangents.getD j 0 := by
    simp only [List.getD_eq_getElem (hn := show j < tangents.length from inTable)]
  simp only [tanOf, quotient, remainder, held i (by omega), held (i + 1) (by omega)]

/-! ## The arctangent -/

/-- Below the second entry the search stops at the first step (R113). -/
theorem atanFrom_stops {t i a b : Nat} {rest : List Nat} (below : t < b) :
    atanFrom t i (a :: b :: rest) = 30 * i + ((t - a) * 30 + (b - a) / 2) / (b - a) := if_pos below

/-- From the second entry on the search goes to the next step. -/
theorem atanFrom_goes_on {t i a b : Nat} {rest : List Nat} (above : b ≤ t) :
    atanFrom t i (a :: b :: rest) = atanFrom t (i + 1) (b :: rest) := if_neg (Nat.not_lt.2 above)

/-- In an ascending table the search ends at the step that holds the value. -/
theorem atanFrom_holding {t i j : Nat} {table : List Nat} (ascending : table.Pairwise (· < ·)) (inTable : j + 1 < table.length)
    (above : table.getD j 0 ≤ t) (below : t < table.getD (j + 1) 0) : atanFrom t i table =
      30 * (i + j) + ((t - table.getD j 0) * 30 + (table.getD (j + 1) 0 - table.getD j 0) / 2)
        / (table.getD (j + 1) 0 - table.getD j 0) := by
  induction j generalizing i table with
  | zero =>
    match table, inTable with
    | a :: b :: rest, _ => exact atanFrom_stops below
  | succ j ih =>
    match table, inTable with
    | a :: b :: rest, inTable =>
      have shorter : j + 1 < (b :: rest).length := Nat.lt_of_succ_lt_succ inTable
      have first : b ≤ (b :: rest).getD j 0 := by
        cases j with
        | zero => exact Nat.le_refl b
        | succ k =>
          have later : k < rest.length := by simpa using shorter.le
          rw [List.getD_cons_succ, List.getD_eq_getElem rest 0 later]
          exact (List.rel_of_pairwise_cons ascending.of_cons (List.getElem_mem later)).le
      rw [atanFrom_goes_on (first.trans above), ih ascending.of_cons shorter above below, Nat.add_right_comm i 1 j]
      rfl

/-- A value that no entry exceeds is past the table's end. -/
theorem atanFrom_past {t i : Nat} {table : List Nat} (past : ∀ x ∈ table, x ≤ t) : atanFrom t i table = 450 := by
  induction table generalizing i with
  | nil => rfl
  | cons a rest ih =>
    cases rest with
    | nil => rfl
    | cons b rest =>
      rw [atanFrom_goes_on (past b (by simp))]
      exact ih fun x hx => past x (List.mem_cons_of_mem a hx)

theorem tangents_ascending : tangents.Pairwise (· < ·) := by decide

/-- Settles O43: the tangent by the quotient and rest of the angle, the arctangent by the search along the ascending table. -/
theorem anglesInterpolateTheTable : Obligations.AnglesInterpolateTheTable := by
  unfold Obligations.AnglesInterpolateTheTable
  refine ⟨⟨fun i f => tanOf_step, by decide, by decide, by decide, by decide⟩, fun t past => ?_,
    fun i t step above below => ?_, by decide⟩
  · have top : ∀ x ∈ tangents, x ≤ 4096 := by decide
    exact atanFrom_past fun x hx => (top x hx).trans past
  · rw [atanOf, atanFrom_holding tangents_ascending (show i + 1 < tangents.length from Nat.succ_lt_succ step) above below,
      Nat.zero_add]
    rfl

end Sys2Proof.Steering
end

section
/-! SUPPORT. The bounds of the steering geometry (R111, R114 to R117). -/

namespace Sys2Proof.Steering

open Sys2Proof Sys2Proof.Machine Sys2Proof.Safety

/-! ## The square root -/

/-- The bits from `k - 1` down add less than 2^k to what is found. -/
theorem isqrtBits_range (n k r : Nat) : r ≤ isqrtBits n k r ∧ isqrtBits n k r < r + 2 ^ k := by
  induction k generalizing r with
  | zero => exact ⟨Nat.le_refl r, Nat.lt_succ_self r⟩
  | succ k ih =>
    have double : 2 ^ (k + 1) = 2 ^ k + 2 ^ k := by omega
    unfold isqrtBits
    split
    · have taken := ih (r + 2 ^ k)
      omega
    · have left := ih r
      omega

/-- A greater number keeps every bit that a smaller one takes, or takes an earlier bit that outweighs the rest. -/
theorem isqrtBits_mono {n m : Nat} (le : n ≤ m) (k r : Nat) : isqrtBits n k r ≤ isqrtBits m k r := by
  induction k generalizing r with
  | zero => exact Nat.le_refl r
  | succ k ih =>
    unfold isqrtBits
    by_cases small : (r + 2 ^ k) * (r + 2 ^ k) ≤ n
    · rw [if_pos small, if_pos (small.trans le)]
      exact ih _
    · rw [if_neg small]
      split
      · exact (isqrtBits_range n k r).2.le.trans (isqrtBits_range m k _).1
      · exact ih r

theorem isqrt_mono {n m : Nat} (le : n ≤ m) : isqrt n ≤ isqrt m := isqrtBits_mono le 32 0

/-! ## The speed ratio (R117) -/

theorem axleAt_mem_axlesOf {v : ImageVehicle} {p : Position} {a : Axle} (at_ : axleAt v p = some a) : a ∈ axlesOf v := by
  cases p <;> simp only [axleAt, axlesOf] at at_ ⊢ <;> split <;> simp_all

/-- The greatest square is at least that of any axle of the vehicle. -/
theorem square_le_maxAxleSquare {i : Image} {a : Axle} (centre : Int) (mem : a ∈ axlesOf i.vehicle) :
    (axleX i.steer a - centre).natAbs ^ 2 ≤ maxAxleSquare i centre := by
  have among (l : List Axle) (m : Nat) : m ≤ l.foldl (fun m a => max m ((axleX i.steer a - centre).natAbs ^ 2)) m ∧
      (a ∈ l → (axleX i.steer a - centre).natAbs ^ 2 ≤
        l.foldl (fun m a => max m ((axleX i.steer a - centre).natAbs ^ 2)) m) := by
    induction l generalizing m with
    | nil => exact ⟨Nat.le_refl m, nofun⟩
    | cons b l ih =>
      obtain ⟨base, later⟩ := ih (max m ((axleX i.steer b - centre).natAbs ^ 2))
      refine ⟨(Nat.le_max_left _ _).trans base, fun mem => ?_⟩
      rcases List.mem_cons.1 mem with rfl | mem
      · exact (Nat.le_max_right _ _).trans base
      · exact later mem
  exact (among _ 0).2 mem

/-- A share of no more than the whole is at most 1000 per mille. -/
theorem perMille_le {r whole : Nat} (le : r ≤ whole) : (r * 1000 + whole / 2) / whole ≤ 1000 := by
  rcases Nat.eq_zero_or_pos whole with rfl | pos
  · simp
  · exact Nat.le_of_lt_succ ((Nat.div_lt_iff_lt_mul pos).2 (by omega))

/-- No wheel runs farther out than the outermost. -/
theorem speedRatio_le {i : Image} {t : Turn} {inner : Bool} {a : Axle} (mem : a ∈ axlesOf i.vehicle) :
    speedRatio i t inner (axleX i.steer a - t.centre) ≤ 1000 := by
  have across : (if inner then ((t.radius : Int) - i.steer.halfTrack).natAbs else t.radius + i.steer.halfTrack) ≤
      t.radius + i.steer.halfTrack := by split <;> omega
  exact perMille_le (isqrt_mono (Nat.add_le_add (square_le_maxAxleSquare t.centre mem) (Nat.pow_le_pow_left across 2)))

/-! ## The angle (R111, R116) -/

theorem wheelAngle_le (t : Turn) (inner : Bool) (halfTrack lim d : Nat) : wheelAngle t inner halfTrack lim d ≤ lim := by
  unfold wheelAngle
  dsimp only
  split
  · split
    · exact Nat.le_refl lim
    · exact Nat.min_le_left _ _
  · split
    · exact Nat.le_refl lim
    · exact Nat.min_le_left _ _

theorem wheelTarget_le (t : Turn) (inner steers : Bool) (halfTrack lim : Nat) (d s : Int) :
    (wheelTarget t inner steers halfTrack lim d s).natAbs ≤ lim := by
  have angle := wheelAngle_le t inner halfTrack lim d.natAbs
  unfold wheelTarget
  dsimp only
  split
  · exact Nat.zero_le _
  · split <;> omega

theorem wheelTarget_of_fixed (t : Turn) (inner : Bool) (halfTrack lim : Nat) (d s : Int) :
    wheelTarget t inner false halfTrack lim d s = 0 := if_pos (.inl rfl)

/-- A per-mille share of a limit stays within it. -/
theorem natAbs_rdiv_perMille_le {x : Int} (range : inPerMille x) (lim : Nat) : (rdiv (x * lim) 1000).natAbs ≤ lim := by
  obtain ⟨low, high⟩ := range
  have above : x * lim ≤ 1000 * lim := Int.mul_le_mul_of_nonneg_right high (by omega)
  have below : -1000 * lim ≤ x * lim := Int.mul_le_mul_of_nonneg_right low (by omega)
  unfold rdiv
  split <;> omega

/-! ## The geometry result -/

/-- The limit of the axle of a position under an image; 0 without an axle (R109). -/
def limitAt (i : Image) (p : Position) : Nat := ((axleAt i.vehicle p).map (axleLim i.steer)).getD 0

/-- What the geometry result of a position holds to: the angle within the limit of its axle and 0 for a wheel that does not
steer, and the figures of a wheel that runs straight ahead (R114, R116, R117). -/
structure HoldsTo (i : Image) (p : Position) (m : SteerMode) (indicator : LeftRight) (g : Geometry) : Prop where
  mode : g.mode = m
  indicator : g.indicator = indicator
  ratio : g.q ≤ 1000
  within : g.target.natAbs ≤ limitAt i p
  fixed : ∀ a, axleAt i.vehicle p = some a → steersIn i.steer m a = false → g.target = 0
  straight : g.straight = true → g.target = 0 ∧ g.q = 1000 ∧ g.side = .none
  crab : m = .crab → g.q = 1000 ∧ g.side = .none

variable {i : Image} {p : Position} {m : SteerMode} {x : Int} {ind : LeftRight} {t : Turn} {a : Axle}

theorem limitAt_of_axle (axle : axleAt i.vehicle p = some a) : limitAt i p = axleLim i.steer a := by
  rw [limitAt, axle]
  rfl

/-- A wheel straight ahead holds to every axle. -/
theorem holdsTo_ahead (straight : Bool) (i : Image) (p : Position) (m : SteerMode) (ind : LeftRight) :
    HoldsTo i p m ind { mode := m, straight, target := 0, side := .none, q := 1000, indicator := ind } :=
  ⟨rfl, rfl, Nat.le_refl _, Nat.zero_le _, fun _ _ _ => rfl, fun _ => ⟨rfl, rfl, rfl⟩, fun _ => ⟨rfl, rfl⟩⟩

/-- In CRAB every wheel that steers takes the same share of its limit (R111). -/
theorem geometryOf_crab_steering (axle : axleAt i.vehicle p = some a) (steers : steersIn i.steer .crab a = true) :
    geometryOf i p .crab x ind = { mode := .crab, straight := false, target := rdiv (x * axleLim i.steer a) 1000
                                   side := .none, q := 1000, indicator := ind } := by
  simp [geometryOf, axle, steers]

theorem geometryOf_crab_fixed (fixed : ∀ a, axleAt i.vehicle p = some a → steersIn i.steer .crab a = false) :
    geometryOf i p .crab x ind =
      { mode := .crab, straight := false, target := 0, side := .none, q := 1000, indicator := ind } := by
  cases axle : axleAt i.vehicle p with
  | none => simp [geometryOf, axle]
  | some a => simp [geometryOf, axle, fixed a axle]

theorem geometryOf_straight (turning : m ≠ .crab) (straight : turnOf i m x = none) : geometryOf i p m x ind =
    { mode := m, straight := true, target := 0, side := .none, q := 1000, indicator := ind } := by
  simp [geometryOf, turning, straight]

theorem geometryOf_centre (turning : m ≠ .crab) (turn : turnOf i m x = some t) (centre : axleAt i.vehicle p = none) :
    geometryOf i p m x ind = { mode := m, straight := false, target := 0, side := .none, q := 1000, indicator := ind } := by
  simp [geometryOf, turning, turn, centre]

theorem geometryOf_wheel (turning : m ≠ .crab) (turn : turnOf i m x = some t) (axle : axleAt i.vehicle p = some a) :
    geometryOf i p m x ind =
      { mode := m, straight := false
        target := wheelTarget t (isInner p x) (steersIn i.steer m a) i.steer.halfTrack (axleLim i.steer a)
          (axleX i.steer a - t.centre) x
        side := if isInner p x then .inner else .outer
        q := speedRatio i t (isInner p x) (axleX i.steer a - t.centre), indicator := ind } := by
  simp [geometryOf, turning, turn, axle]

theorem holdsTo_crab (range : inPerMille x) : HoldsTo i p .crab ind (geometryOf i p .crab x ind) := by
  by_cases steering : ∃ a, axleAt i.vehicle p = some a ∧ steersIn i.steer .crab a = true
  · obtain ⟨a, axle, steers⟩ := steering
    rw [geometryOf_crab_steering axle steers]
    refine ⟨rfl, rfl, Nat.le_refl _, ?_, fun b other fixed => ?_, nofun, fun _ => ⟨rfl, rfl⟩⟩
    · rw [limitAt_of_axle axle]
      exact natAbs_rdiv_perMille_le range _
    · cases axle.symm.trans other
      cases steers.symm.trans fixed
  · rw [geometryOf_crab_fixed fun a axle => Bool.eq_false_iff.2 fun steers => steering ⟨a, axle, steers⟩]
    exact holdsTo_ahead false i p .crab ind

/-- A wheel in a turn (R115 to R117). -/
theorem holdsTo_wheel (turning : m ≠ .crab) (turn : turnOf i m x = some t) (axle : axleAt i.vehicle p = some a) :
    HoldsTo i p m ind (geometryOf i p m x ind) := by
  rw [geometryOf_wheel turning turn axle]
  refine ⟨rfl, rfl, speedRatio_le (axleAt_mem_axlesOf axle), ?_, fun b other fixed => ?_, nofun,
    fun crab => absurd crab turning⟩
  · rw [limitAt_of_axle axle]
    exact wheelTarget_le ..
  · cases axle.symm.trans other
    dsimp only
    rw [fixed]
    exact wheelTarget_of_fixed ..

theorem holdsTo_geometryOf (range : inPerMille x) : HoldsTo i p m ind (geometryOf i p m x ind) := by
  by_cases crab : m = .crab
  · subst crab
    exact holdsTo_crab range
  cases turn : turnOf i m x with
  | none =>
    rw [geometryOf_straight crab turn]
    exact holdsTo_ahead true i p m ind
  | some t =>
    cases axle : axleAt i.vehicle p with
    | none =>
      rw [geometryOf_centre crab turn axle]
      exact holdsTo_ahead false i p m ind
    | some a => exact holdsTo_wheel crab turn axle

end Sys2Proof.Steering
end

section
/-! SUPPORT. The limit of the steering targets in one predicate (R116, R121, R127). Each shared operation and each node-state
entry is shown to keep it once, by a lemma that takes what comes before the operation; an operation that writes nothing the
predicate reads needs no lemma. -/

namespace Sys2Proof.Steering

open Sys2Proof Sys2Proof.Machine Sys2Proof.Safety

variable {s t u : State} {i : Option ImageInForce} {p : Option Position} {st : NodeState}

/-! ## The targets and their limit -/

/-- What the invariant of the steering targets reads. -/
structure SteerFigures where
  image : Option ImageInForce
  position : Option Position
  state : NodeState
  target : Int
  presented : Int
  actuator : Int

def steerFiguresOf (s : State) : SteerFigures :=
  { image := s.node.image, position := s.node.position, state := s.node.state, target := s.steer.geometry.target
    presented := s.steer.presented, actuator := s.steer.actuator }

/-- The limit of the targets under an image at a position; 0 where one of them is missing. -/
def boundOf : Option ImageInForce → Option Position → Nat
  | some i, some p => limitAt i.fields p
  | none, _ => 0
  | some _, none => 0

theorem boundOf_no_position (i : Option ImageInForce) : boundOf i none = 0 := by cases i <;> rfl

/-- The states in which a node may have no image in force (R24, R26). -/
def MayLackImage (st : NodeState) : Prop := st = .strap ∨ st = .listen ∨ st = .cutoff ∨ st = .conflict

/-- The image and the position are these, the three targets lie within their limit, and the node state is one that they
allow. -/
structure WithinLimit (i : Option ImageInForce) (p : Option Position) (x : SteerFigures) : Prop where
  image : x.image = i
  position : x.position = p
  target : x.target.natAbs ≤ boundOf i p
  presented : x.presented.natAbs ≤ boundOf i p
  actuator : x.actuator.natAbs ≤ boundOf i p
  strapBare : x.state = .strap → p = none
  imageless : i = none → MayLackImage x.state

/-- The steering targets of a state are within the limit. -/
abbrev Guided (i : Option ImageInForce) (p : Option Position) (s : State) : Prop := WithinLimit i p (steerFiguresOf s)

/-- The same of a state that is about to enter a node state. -/
abbrev GuidedInto (st : NodeState) (i : Option ImageInForce) (p : Option Position) (s : State) : Prop :=
  WithinLimit i p { steerFiguresOf s with state := st }

/-- Under an image the limit is that of the node's axle (R109). -/
theorem axleLimit_of_image (image : s.node.image ≠ none) : axleLimit s = boundOf s.node.image s.node.position := by
  obtain ⟨i, forced⟩ := Option.ne_none_iff_exists'.1 image
  cases placed : s.node.position with
  | none => simp [axleLimit, axleOf, placed, boundOf_no_position]
  | some p =>
    cases p
    case ml => by_cases three : i.fields.vehicle.axleCount = 3 <;>
      simp [axleLimit, axleOf, fieldsOf, placed, forced, boundOf, limitAt, axleAt, axleLim, three]
    case mr => by_cases three : i.fields.vehicle.axleCount = 3 <;>
      simp [axleLimit, axleOf, fieldsOf, placed, forced, boundOf, limitAt, axleAt, axleLim, three]
    all_goals simp [axleLimit, axleOf, fieldsOf, placed, forced, boundOf, limitAt, axleAt, axleLim]

theorem axleLimit_nonneg (s : State) : 0 ≤ axleLimit s := by
  unfold axleLimit
  split <;> omega

theorem boundOf_le_axleLimit (s : State) : (boundOf s.node.image s.node.position : Int) ≤ axleLimit s := by
  by_cases image : s.node.image = none
  · rw [image]
    exact axleLimit_nonneg s
  · exact (axleLimit_of_image image).ge

/-- A node without an image or a position has no target. -/
theorem WithinLimit.at_rest {x : SteerFigures} (h : WithinLimit i p x) (bare : boundOf i p = 0) :
    x.target = 0 ∧ x.presented = 0 ∧ x.actuator = 0 := by
  obtain ⟨_, _, target, presented, actuator, _, _⟩ := h
  omega

theorem boundOf_bare (bare : i = none ∨ p = none) : boundOf i p = 0 := by
  rcases bare with rfl | rfl
  · rfl
  · exact boundOf_no_position i

theorem Guided.steerInv (h : Guided i p s) : SteerInv s := by
  obtain ⟨rfl, rfl, target, presented, actuator, strapBare, imageless⟩ := id h
  have limit := boundOf_le_axleLimit s
  exact ⟨(Int.ofNat_le.2 target).trans limit, (Int.ofNat_le.2 presented).trans limit, (Int.ofNat_le.2 actuator).trans limit,
    fun bare => h.at_rest (boundOf_bare bare), strapBare, imageless⟩

theorem guided_of_steerInv (inv : SteerInv s) : Guided s.node.image s.node.position s := by
  by_cases image : s.node.image = none
  · obtain ⟨target, presented, actuator⟩ := inv.atRest (.inl image)
    exact ⟨rfl, rfl, by simp [steerFiguresOf, target], by simp [steerFiguresOf, presented], by simp [steerFiguresOf, actuator],
      inv.strapBare, inv.imageless⟩
  · have limit := axleLimit_of_image image
    exact ⟨rfl, rfl, Int.ofNat_le.1 (limit ▸ inv.target), Int.ofNat_le.1 (limit ▸ inv.presented),
      Int.ofNat_le.1 (limit ▸ inv.actuator), inv.strapBare, inv.imageless⟩

theorem Guided.ite {c : Prop} [Decidable c] (h : Guided i p t) (k : Guided i p u) : Guided i p (if c then t else u) := by
  split
  · exact h
  · exact k

/-- Targets of 0 are within every limit. -/
theorem WithinLimit.of_rest {x : SteerFigures} (rest : x.target = 0 ∧ x.presented = 0 ∧ x.actuator = 0)
    (strapBare : x.state = .strap → x.position = none) (imageless : x.image = none → MayLackImage x.state) :
    WithinLimit x.image x.position x := by
  obtain ⟨target, presented, actuator⟩ := rest
  exact ⟨rfl, rfl, by simp [target], by simp [presented], by simp [actuator], strapBare, imageless⟩

/-- A node state other than STRAP may be entered with an image, and LISTEN, CUTOFF and CONFLICT without one. -/
theorem Guided.into (h : Guided i p s) (unstrapped : st ≠ .strap := by decide)
    (lacks : i = none → MayLackImage st := by exact fun _ => by simp [MayLackImage]) : GuidedInto st i p s :=
  { h with strapBare := fun strap => absurd strap unstrapped, imageless := lacks }

/-- A node in a state that no node without an image is in has one. -/
theorem Guided.imaged (h : Guided i p s) (state : ¬ MayLackImage s.node.state) : i ≠ none :=
  fun lacking => state (h.imageless lacking)

/-- With an image in force every node state but STRAP may be entered. -/
theorem Guided.into_any (h : Guided i p s) (imaged : i ≠ none) (unstrapped : st ≠ .strap := by decide) :
    GuidedInto st i p s := h.into unstrapped fun lacking => absurd lacking imaged

theorem guided_setMonitor {x : Monitor} (h : Guided i p t) : Guided i p (t.setMonitor x) := h

theorem guided_setPins {x : Pins} (h : Guided i p t) : Guided i p (t.setPins x) := h

theorem guided_setDrive {x : Drive} (h : Guided i p t) : Guided i p (t.setDrive x) := h

theorem guided_setLights {x : Lights} (h : Guided i p t) : Guided i p (t.setLights x) := h

/-! ## Reports, records and the bus port -/

theorem guided_of_report (changes : SameButReport t u) (h : Guided i p t) : Guided i p u := by
  rw [changes]
  exact h

theorem guided_settle (h : Guided i p t) : Guided i p (settle t) := guided_of_report (NodeControl.sameButReport_settle t) h

theorem guided_placeReport (h : Guided i p t) : Guided i p (placeReport t) :=
  guided_of_report (NodeControl.sameButReport_placeReport t) h

theorem guided_placeFrame {k : TxKind} {payload : List Byte} (h : Guided i p t) : Guided i p (placeFrame k payload t) := by
  rw [placeFrame_frame]
  exact h

theorem guidedInto_placeFrame {k : TxKind} {payload : List Byte} (h : GuidedInto st i p t) :
    GuidedInto st i p (placeFrame k payload t) := by
  rw [placeFrame_frame]
  exact h

theorem guided_placeNotice (h : Guided i p t) : Guided i p (placeNotice t) := by
  unfold placeNotice
  split
  · exact guided_placeFrame h
  · exact h

theorem guided_finishAttempt (h : Guided i p t) : Guided i p (finishAttempt t) := by
  rw [TrailBus.finishAttempt_eq]
  cases lineKind t <;> exact h

theorem guided_requestBreak (h : Guided i p t) : Guided i p (requestBreak t) := by
  rw [TrailBus.requestBreak_eq]
  exact .ite h (guided_finishAttempt h)

theorem guided_raiseEvent {e : ReportEvent} (h : Guided i p t) : Guided i p (raiseEvent e t) := by
  rw [NodeControl.raiseEvent_frame]
  exact h

theorem guided_addFault {kind : FaultKind} {output : FaultOutput} {detail : Int} (h : Guided i p t) :
    Guided i p (addFault kind output detail t) := guided_raiseEvent h

/-! ## The bridges and the drum -/

theorem guided_of_drum (changes : NodeControl.SameButDrum t u) (h : Guided i p t) : Guided i p u := by
  unfold NodeControl.SameButDrum at changes
  rw [changes]
  exact h

theorem guided_setDrum {d : DrumState} (h : Guided i p t) : Guided i p (setDrum d t) :=
  guided_of_drum (NodeControl.sameButDrum_setDrum d t) h

theorem guided_closeOperation {reason : EndReason} (h : Guided i p t) : Guided i p (closeOperation reason t) :=
  guided_of_drum (NodeControl.sameButDrum_closeOperation reason t) h

theorem guided_placeWinch (h : Guided i p t) : Guided i p (placeWinch t) :=
  guided_of_drum (NodeControl.sameButDrum_placeWinch t) h

theorem guided_endOperation {reason : EndReason} {d : DrumState} (h : Guided i p t) : Guided i p (endOperation reason d t) :=
  guided_setDrum (t := brakeBridgeA (closeOperation reason t)) (guided_closeOperation h)

theorem guided_releaseDrum {reason : EndReason} (h : Guided i p t) : Guided i p (releaseDrum reason t) := by
  have released : Guided i p (offBridgeB (closeOperation reason t)) := guided_closeOperation h
  unfold releaseDrum
  exact .ite (.ite released (guided_setDrum released)) h

theorem guided_shutBridgeA (h : Guided i p t) : Guided i p (shutBridgeA t) := .ite h h

/-! ## The entries to the node states -/

/-- Going safe, the geometry is straight and the presented target 0 (R127). -/
theorem guided_goSafe {reason : EndReason} (h : Guided i p t) : Guided i p (goSafe reason t) := by
  have rested : Guided i p (NodeControl.safeOutputs t) := { h with target := Nat.zero_le _, presented := Nat.zero_le _ }
  exact guided_of_drum (NodeControl.goSafe_changes reason t) rested

theorem guided_moveTo (h : GuidedInto st i p t) : Guided i p (moveTo st t) := by
  rw [NodeControl.moveTo_eq]
  exact h

theorem guided_startBeat (h : Guided i p t) : Guided i p (startBeat t) := .ite h h

/-- The outputs safe in a state just entered, with the CHECK step abandoned. -/
theorem guided_enteredSafe {reason : EndReason} (h : GuidedInto st i p t) :
    Guided i p (goSafe reason (abandonCheck (moveTo st t))) :=
  guided_goSafe (t := abandonCheck (moveTo st t)) (guided_moveTo h)

theorem guided_enterListen (h : GuidedInto .listen i p t) : Guided i p (enterListen t) := by
  have heard {s : State} (safe : Guided i p s) : Guided i p (NodeControl.listenFrom s) := safe
  rw [NodeControl.enterListen_eq, ← NodeControl.abandonCheck_moveTo rfl]
  exact heard (guided_enteredSafe h)

theorem guided_enterRun (h : GuidedInto .run i p t) : Guided i p (enterRun t) := by
  have ramped {s : State} {x : Intake} (h : Guided i p s) : Guided i p ((zeroDrive (clearLoss s)).setIntake x) := h
  exact ramped (guided_moveTo h)

theorem guided_enterFailsafe (h : GuidedInto .failsafe i p t) : Guided i p (enterFailsafe t) := by
  have unbound {s : State} {x : Intake} (h : Guided i p s) : Guided i p ((clearLoss s).setIntake x) := h
  have braked {s : State} (h : Guided i p s) : Guided i p (brakeBridgeA s) := h
  have moved := guided_moveTo h
  exact guided_raiseEvent (.ite (guided_releaseDrum (braked (unbound moved))) (unbound moved))

theorem guided_enterCutoff {cause : CutoffCause} (h : Guided i p t) : Guided i p (enterCutoff cause t) := by
  have cleared {s : State} (h : Guided i p s) : Guided i p (clearIntake s) := h
  have timed {s : State} (h : Guided i p s) : Guided i p (startReportTimer s) := .ite h h
  have dark {s : State} {x : Option Nat} (h : Guided i p s) : Guided i p
      ((darkenForCutoff s).setNode { (darkenForCutoff s).node with noticeTimer := x }) := h
  have recorded {st : NodeState} {detail : Int} {s : State} (h : Guided i p s) :
      Guided i p (addFaultIn st .cutoff .none detail (s.setPower { s.power with cause := some cause })) :=
    guided_raiseEvent (t := (s.setPower _).setMonitor _) h
  have entered := recorded (st := t.node.state) (detail := cutoffCauseCode cause)
    (dark (x := none) (timed (cleared (guided_enteredSafe (reason := .cutoff) (h.into (st := .cutoff))))))
  exact .ite h (.ite (guided_requestBreak entered) entered)

theorem guided_enterConflict {cause : ConflictCause} {strapCode : Nat} (h : Guided i p t) :
    Guided i p (enterConflict cause strapCode t) := by
  have recorded {s : State} {r : FaultRecord} (safe : Guided i p s) :
      Guided i p (NodeControl.conflictFrom cause strapCode r s) := safe
  rw [NodeControl.enterConflict_eq, ← NodeControl.abandonCheck_moveTo rfl]
  exact guided_startBeat (guided_placeNotice (recorded (guided_enteredSafe h.into)))

/-! ## The thermal class (R96, R198) -/

theorem guided_setSensor {x : Sensor} {v : SensorState} (h : Guided i p t) : Guided i p (setSensor x v t) := by
  cases x <;> exact h

theorem guided_failSensor {x : Sensor} {reading : Int} (h : Guided i p t) : Guided i p (failSensor x reading t) :=
  guided_addFault (guided_setSensor h)

theorem guided_checkSensor {x : Sensor} {reading : Int} (h : Guided i p t) : Guided i p (checkSensor x reading t) :=
  .ite (.ite (guided_setSensor h) (guided_failSensor h)) (guided_setSensor h)

theorem guided_readSensor {x : Sensor} {reading : Int} (h : Guided i p t) : Guided i p (readSensor x reading t) :=
  .ite (.ite (guided_setSensor h) (.ite (guided_failSensor h) (guided_setSensor h))) (guided_setSensor h)

theorem guided_thermalEffects {before : ThermalClass} (h : Guided i p t) : Guided i p (thermalEffects before t) := by
  have lowered : Guided i p (if before = .normal ∧ thermalClass t ≠ .normal then lowerAllowance t else t) :=
    .ite (.ite h h) h
  have shut {output : FaultOutput} {reading : Int} := guided_shutBridgeA
    (guided_addFault (kind := .overtemp) (output := output) (detail := reading) (t := offBridgeB _) lowered)
  have closed {output : FaultOutput} {reading : Int} := guided_setDrum (d := .braked)
    (guided_closeOperation (reason := .fault) (shut (output := output) (reading := reading)))
  unfold thermalEffects
  refine .ite ?_ lowered
  dsimp only
  split
  · exact closed
  · exact closed
  · exact closed
  · exact guided_setDrum shut
  all_goals exact shut

theorem guided_temperatureStep (h : Guided i p t) : Guided i p (temperatureStep t) :=
  guided_thermalEffects (guided_checkSensor (guided_checkSensor h))

/-! ## The CHECK sequence -/

theorem guided_withdrawA {result : CheckResult} (h : Guided i p t) : Guided i p (withdrawA result t) := by
  have held {m : BridgeMode} {x : Monitor} : Guided i p (forceBridgeA m 0 (zeroDrive (t.setMonitor x))) := h
  exact .ite (guided_setDrum (t := offBridgeB _) (guided_closeOperation held)) held

theorem guided_withdrawB (h : Guided i p t) : Guided i p (withdrawB t) := .ite (guided_setDrum h) h

theorem guided_withdrawLamp {l : Lamp} {current : Nat} (h : Guided i p t) : Guided i p (withdrawLamp l current t) :=
  guided_addFault h

theorem guided_beginStep {x : CheckStep} (h : Guided i p t) : Guided i p (beginStep x t) := by
  have driven {s : State} (h : Guided i p s) : Guided i p (driveStep x s) := by cases x <;> exact h
  unfold beginStep
  exact driven (guided_setMonitor h)

/-- The sequence ends in SAFE, which asks for an image. -/
theorem guided_enterSafe (imaged : i ≠ none) (h : Guided i p t) : Guided i p (enterSafe t) := by
  have off {s : State} (h : Guided i p s) : Guided i p (endTripWaitB (offBridgeB (clearLoss (abandonCheck s)))) := h
  have held {s : State} (h : Guided i p s) : Guided i p (holdBridgeA s) := h
  have moved : Guided i p (moveTo .safe t) := guided_moveTo (h.into_any imaged)
  have safe : Guided i p (NodeControl.safeEntered t) := held (guided_releaseDrum (off moved))
  rw [NodeControl.enterSafe_eq]
  exact .ite (guided_placeWinch safe) safe

theorem guided_reachStep {x : CheckStep} (h : Guided i p t) : Guided i p (reachStep x t) := by
  unfold reachStep
  split
  · exact h
  · exact guided_temperatureStep (t := commitRatings t) h
  · exact h

theorem guided_advance {steps : List CheckStep} (imaged : i ≠ none) (h : Guided i p t) : Guided i p (advance steps t) := by
  induction steps generalizing t with
  | nil => exact guided_enterSafe imaged h
  | cons x rest ih =>
    have reached := guided_reachStep (x := x) h
    unfold advance
    exact .ite (ih reached) (.ite (ih reached) (.ite reached (guided_beginStep reached)))

theorem guided_completeStep {x : CheckStep} (imaged : i ≠ none) (h : Guided i p t) : Guided i p (completeStep x t) :=
  guided_advance imaged h

theorem guided_enterCheck (imaged : i ≠ none) (h : Guided i p t) : Guided i p (enterCheck t) := by
  have begun {s : State} {r : CheckRecord} (h : Guided i p s) : Guided i p ((clearIntake s).setMonitor
      { (clearIntake s).monitor with record := r, waiting := false }) := h
  have moved : Guided i p (moveTo .check t) := guided_moveTo (h.into_any imaged)
  unfold enterCheck startSequence
  exact guided_advance imaged (guided_setMonitor (begun (guided_goSafe moved)))

/-! ## An image comes into force; the resets -/

/-- An image that comes into force where there was none finds the targets at 0. -/
theorem guided_applyImage {img : ImageInForce} (h : Guided none p t) : Guided (some img) p (applyImage img t) := by
  have forced {b : Bool} {d : Drive} : Guided (some img) p
      ((t.setNode { t.node with image := some img, staging := [], packMonitor := b }).setDrive d) :=
    { h with
      image := rfl, target := h.target.trans (Nat.zero_le _), presented := h.presented.trans (Nat.zero_le _)
      actuator := h.actuator.trans (Nat.zero_le _), imageless := nofun }
  have formed {b : Bool} {d : Drive} : Guided (some img) p (setFunctions img.fields.lights
      ((t.setNode { t.node with image := some img, staging := [], packMonitor := b }).setDrive d)) := by
    rw [NodeControl.setFunctions_eq]
    exact forced (d := d)
  have marked {s : State} {x : Power} (h : Guided (some img) p s) : Guided (some img) p (clearMarks (s.setPower x)) := h
  have sampled {s : State} {x : Winch} (h : Guided (some img) p s) : Guided (some img) p (holdBridgeA (s.setWinch x)) := h
  unfold applyImage
  exact .ite (sampled (marked formed)) (marked formed)

/-- RESTART takes the image out of force with the targets at 0, on its way to LISTEN (Table 2-7). -/
theorem guidedInto_restartBlocks (s : State) : GuidedInto .listen none s.node.position (restartBlocks s) := by
  rw [NodeControl.restartBlocks_eq]
  exact WithinLimit.of_rest (x := { image := none, position := s.node.position, state := .listen, target := 0
                                    presented := 0, actuator := 0 }) ⟨rfl, rfl, rfl⟩ nofun fun _ => .inr (.inl rfl)

end Sys2Proof.Steering
end

section
/-! SUPPORT and THEOREM. The meaning of every command keeps the steering targets within the limit, unit by unit (O44). -/

namespace Sys2Proof.Steering

open Sys2Proof Sys2Proof.Machine Sys2Proof.Safety

variable {s t u : State} {i : Option ImageInForce} {p : Option Position}

/-! ## The steering unit and the command that it takes (spec 06) -/

/-- The presented target is the geometry's or 0 (R122). -/
theorem guided_presentTarget (h : Guided i p t) : Guided i p (presentTarget t) := by
  refine { h with presented := ?_ }
  show (if centring t = true then (0 : Int) else t.steer.geometry.target).natAbs ≤ boundOf i p
  split
  · exact Nat.zero_le _
  · exact h.target

/-- The geometry of a steer value within 1000 per mille (R107). -/
theorem guided_offerCommand (steer : inPerMille t.intake.record.steer) (h : Guided i p t) : Guided i p (offerCommand t) := by
  obtain ⟨rfl, rfl, _, _, _, _, _⟩ := id h
  refine guided_presentTarget (t := t.setSteer _) { h with target := ?_ }
  dsimp only [steerFiguresOf, State.setSteer_steer]
  split
  next img at_ forced placed =>
    rw [forced, placed]
    split
    · exact (holdsTo_geometryOf steer).within
    · exact Nat.zero_le _
  next => exact Nat.zero_le _

theorem natAbs_approach_le {x goal : Int} {bound : Nat} (from_ : x.natAbs ≤ bound) (to_ : goal.natAbs ≤ bound) (step : Nat) :
    (approach x goal step).natAbs ≤ bound := by
  unfold approach
  split
  · omega
  · split <;> omega

/-- The loop starts at the measured angle within the limit of the axle (R120). -/
theorem guided_startLoop (imaged : i ≠ none) (h : Guided i p t) : Guided i p (startLoop t) := by
  obtain ⟨rfl, rfl, _, _, _, _, _⟩ := id h
  have started : (clampInt (-axleLimit t) (axleLimit t) t.steer.measured).natAbs ≤ boundOf t.node.image t.node.position := by
    rw [axleLimit_of_image imaged]
    exact CommandIntake.natAbs_clampInt_le _ _
  exact .ite h { h with actuator := started }

theorem guided_declareStall {err : Int} (h : Guided i p t) : Guided i p (declareStall err t) :=
  .ite (guided_addFault (t := t.setSteer _) h) h

/-- The actuator target moves toward the presented target and no farther (R121). -/
theorem guided_loopTick {isb : Nat} (h : Guided i p t) : Guided i p (loopTick isb t) := by
  have written {m : BridgeMode} {d : Nat} {s : State} (h : Guided i p s) : Guided i p (writeBridgeB m d s) := h
  have moved {c : Nat} {limited : Bool} {w : Option StallWindow} {e : Option Nat} : Guided i p (t.setSteer { t.steer with
      actuator := approach t.steer.actuator t.steer.presented (fieldsOf t).steer.steerSlew, ceiling := c, limited
      stallWindow := w, stallLimit := e }) := { h with actuator := natAbs_approach_le h.actuator h.presented _ }
  exact written (.ite (guided_declareStall moved) moved)

/-! ## Answers -/

/-- Every next state that a command answers with has its steering targets within the limit. -/
def AnswerGuided (a : Answer) : Prop := ∀ t, a = .next t → SteerInv t

theorem AnswerGuided.next (h : Guided i p t) : AnswerGuided (.next t) := by
  rintro _ ⟨⟩
  exact h.steerInv

theorem AnswerGuided.done (h : Guided i p t) : AnswerGuided (done t) := .next (guided_settle h)

theorem AnswerGuided.ite {a b : Answer} {c : Prop} [Decidable c] (h : AnswerGuided a) (k : AnswerGuided b) :
    AnswerGuided (if c then a else b) := by
  split
  · exact h
  · exact k

theorem loopAllowed_state (allowed : loopAllowed s = true) : s.node.state = .run ∨ s.node.state = .failsafe := by
  unfold loopAllowed at allowed
  simp only [Bool.and_eq_true, Bool.or_eq_true, decide_eq_true_eq] at allowed
  obtain ⟨⟨⟨⟨⟨⟨_, run | ⟨failsafe, _⟩⟩, _⟩, _⟩, _⟩, _⟩, _⟩ := allowed
  · exact .inl run
  · exact .inr failsafe

theorem not_mayLackImage_of_mayDrive (may : mayDrive s) : ¬ MayLackImage s.node.state := by
  rcases may with state | state <;> rw [state] <;> simp [MayLackImage]

/-- The loop runs in RUN and FAILSAFE alone, where an image is in force. -/
theorem answerGuided_actuatorTick {pot isb : Nat} (h : Guided i p s) : AnswerGuided (execActuatorTick pot isb s) := by
  have read : Guided i p (readActuator pot isb s) := guided_presentTarget (t := (s.setPins _).setSteer _) h
  have off : Guided i p (offBridgeB (readActuator pot isb s)) := read
  have pinned {x : Pins} : Guided i p (s.setPins x) := h
  unfold execActuatorTick
  dsimp only
  split
  · split
    next allowed =>
      have imaged := read.imaged (not_mayLackImage_of_mayDrive (loopAllowed_state allowed))
      exact .done (guided_loopTick (guided_startLoop imaged read))
    next => exact .next (.ite off read)
  · exact .next pinned

theorem answerGuided_steerStall (h : Guided i p s) : AnswerGuided (execSteerStall s) := by
  have stalled := guided_declareStall (err := s.steer.actuator - s.steer.measured) h
  have written {m : BridgeMode} {d : Nat} {s : State} (h : Guided i p s) : Guided i p (writeBridgeB m d s) := h
  exact .ite (.done (written stalled)) (.next h)

theorem answerGuided_steerSensorLost {pot : Nat} (h : Guided i p s) : AnswerGuided (execSteerSensorLost pot s) := by
  have lost {x : Pins} {n : Nat} {b : Bool} :
      Guided i p ((s.setPins x).setSteer { s.steer with lossCount := n, steerLost := b }) := h
  have off {s : State} (h : Guided i p s) : Guided i p (offBridgeB s) := h
  unfold execSteerSensorLost
  exact .ite (.done (guided_addFault (off (guided_raiseEvent lost)))) (.next h)

/-! ## The bus port (spec 01) -/

theorem answerGuided_receptionFailed {how : RxFail} (h : Guided i p s) : AnswerGuided (execReceptionFailed how s) := by
  have failed : Guided i p (countFailure how s) := by cases how <;> exact h
  have counted : Guided i p (countUnless (exemptNow how s) (countFailure how) s) := .ite h failed
  unfold execReceptionFailed
  exact .ite (.next (t := setRx _ _) counted) (.next h)

theorem guided_disposeFrame {echo : Bool} {kind : FrameKind} {sender : Nat} {payload : List Byte} (h : Guided i p t) :
    Guided i p (disposeFrame echo kind sender payload t) := by
  have queued {f : RxFrame} : Guided i p (enqueue f t) := .ite h h
  unfold disposeFrame
  exact .ite h (.ite h (.ite h queued))

theorem answerGuided_frameReceived {bytes : List Byte} (h : Guided i p s) : AnswerGuided (execFrameReceived bytes s) := by
  have received {x : Receiver} : Guided i p (setRx x s) := h
  have counted {f : BusCounters → BusCounters} {x : Receiver} : Guided i p (countBus f (setRx x s)) := h
  unfold execFrameReceived
  refine .ite ?_ (.next h)
  dsimp only
  split
  · exact .next (.ite received counted)
  · exact .next (.ite received counted)
  · exact .next (guided_disposeFrame received)

theorem answerGuided_breakRecognised (h : Guided i p s) : AnswerGuided (execBreakRecognised s) := by
  have received {x : Receiver} : Guided i p (setRx x s) := h
  unfold execBreakRecognised
  exact .ite (.next received) (.done (guided_enterCutoff received))

theorem answerGuided_attemptStart (h : Guided i p s) : AnswerGuided (execAttemptStart s) := by
  have started {x : Transmitter} : Guided i p (setTx x s) := h
  unfold execAttemptStart
  refine .ite ?_ (.next h)
  split
  · exact .next h
  · split
    · exact .next h
    · exact .next started

theorem guided_loseAttempt {k : TxKind} (h : Guided i p t) : Guided i p (loseAttempt k t) := by
  unfold loseAttempt
  exact .ite h h

theorem answerGuided_arbitrationLost (h : Guided i p s) : AnswerGuided (execArbitrationLost s) := by
  unfold execArbitrationLost
  split
  · exact .next h
  · exact .next (guided_loseAttempt h)

theorem answerGuided_lineFault (h : Guided i p s) : AnswerGuided (execLineFault s) := by
  unfold execLineFault
  split
  · exact .next h
  next k _ =>
    have lost : Guided i p (loseAttempt k s) := guided_loseAttempt h
    exact .next (t := markExempt _) lost

theorem answerGuided_collision (h : Guided i p s) : AnswerGuided (execCollision s) := by
  have exempt {b : Bool} {t : State} (h : Guided i p t) : Guided i p (markExempt (if b then countTxDrop t else t)) := by
    cases b <;> exact h
  have freed {k : TxKind} {sl : Slot} : Guided i p (countCollision (setSlot k sl (clearAttempt s))) := h
  unfold execCollision
  split
  · exact .next h
  · exact .next (exempt freed)

theorem guided_restartCycle (h : Guided i p t) : Guided i p (restartCycle t) := h

theorem answerGuided_attemptComplete (h : Guided i p s) : AnswerGuided (execAttemptComplete s) := by
  have completed : Guided i p (completeAttempt s) := guided_finishAttempt h
  unfold execAttemptComplete
  split
  · exact .next h
  · exact .next (.ite (guided_restartCycle completed) completed)

/-! ## The light sequencer (spec 09) -/

theorem guided_mapChannels {f : Lamp → Channel → Channel} (h : Guided i p t) : Guided i p (mapChannels f t) := h

theorem guided_wrapCycle (h : Guided i p t) : Guided i p (wrapCycle t) := by
  unfold wrapCycle
  exact .ite (guided_placeFrame h) h

theorem guided_beatStep (h : Guided i p t) : Guided i p (beatStep t) := by
  have wrapped : Guided i p (promoteAtWrap (wrapCycle (mapChannels (fun _ c => { c with active := c.staged }) t))) :=
    guided_mapChannels (guided_wrapCycle (guided_mapChannels h))
  exact guided_mapChannels (guided_mapChannels (guided_setLights (guided_setLights
    (.ite wrapped (guided_setLights (guided_mapChannels h))))))

theorem answerGuided_beatTaken (h : Guided i p s) : AnswerGuided (execBeatTaken s) := by
  have popped : Guided i p (popQueue s) := h
  have withdrawn {x : Lights} : Guided i p ((withdrawFrame .beat (popQueue s)).setLights x) := h
  unfold execBeatTaken
  split
  · exact .next h
  · split
    · exact .next popped
    · exact .next (guided_restartCycle withdrawn)

/-! ## The node controller (spec 02, 03) -/

/-- A node in STRAP has no position, so the position that it takes finds the targets at 0. -/
theorem answerGuided_strapReadSuccess {q : Position} (h : Guided i p s) : AnswerGuided (execStrapReadSuccess q s) := by
  unfold execStrapReadSuccess
  split
  next strap =>
    have rest := h.at_rest (boundOf_bare (.inr (h.strapBare strap)))
    have placed {n : StrapReading} : GuidedInto .listen s.node.image (some q)
        (s.setNode { s.node with position := some q, strap := n }) :=
      WithinLimit.of_rest (x := { steerFiguresOf s with position := some q, state := .listen }) rest nofun
        fun _ => .inr (.inl rfl)
    exact .next (guided_enterListen placed)
  next => exact .next h

theorem answerGuided_strapReadFail {last : Option Position} (h : Guided i p s) : AnswerGuided (execStrapReadFail last s) :=
  .ite (.next (guided_enterConflict (t := s.setNode _) h)) (.next h)

theorem answerGuided_silenceTimerExpiry (h : Guided i p s) : AnswerGuided (execSilenceTimerExpiry s) := by
  have silent : Guided i p (s.setNode { s.node with silenceTimer := none }) := h
  have reported := guided_placeReport silent
  unfold execSilenceTimerExpiry
  refine .ite (.done (i := i) (p := p) ?_) (.next h)
  split
  next forced => exact guided_enterCheck (reported.image ▸ Option.isSome_iff_ne_none.1 forced) reported
  next => exact reported

theorem answerGuided_defaultTimerExpiry (h : Guided i p s) : AnswerGuided (execDefaultTimerExpiry s) := by
  have timed {n : Option Nat} : Guided i p (s.setNode { s.node with defaultTimer := n }) := h
  unfold execDefaultTimerExpiry
  refine .ite ?_ (.next h)
  split
  · exact .next timed
  next unforced =>
    have lacking : i = none := h.image ▸ Option.not_isSome_iff_eq_none.1 unforced
    have applied := guided_applyImage (img := defaultImage) (lacking ▸ h)
    have flagged : Guided (some defaultImage) p ((applyImage defaultImage s).setNode
        { (applyImage defaultImage s).node with defaultConfig := true }) := applied
    exact .done (guided_enterCheck (Option.some_ne_none _) flagged)

/-- What a CONFIG leaves is guided, under the image before or the one that came into force. -/
def GuidedSome (p : Option Position) (s : State) : Prop := ∃ i, Guided i p s

theorem Guided.some (h : Guided i p s) : GuidedSome p s := ⟨i, h⟩

theorem guided_completeImage (h : Guided none p t) : GuidedSome p (completeImage t) := by
  have applied := guided_applyImage (img := receivedImage (stagedBytes t.node.staging)) h
  have emptied : Guided none p (countCfgIgnored (t.setNode { t.node with staging := [] })) := h
  unfold completeImage
  dsimp only
  split
  · exact (Guided.ite (guided_enterCheck (Option.some_ne_none _) applied) applied).some
  · exact emptied.some

theorem guided_takeConfig {payload : List Byte} (h : Guided i p t) : GuidedSome p (takeConfig payload t) := by
  have ignored : Guided i p (countCfgIgnored t) := h
  unfold takeConfig
  split
  next open_ =>
    have unforced : Guided none p t := (h.image.symm.trans open_.2) ▸ h
    cases payload with
    | nil => exact ignored.some
    | cons k bytes =>
      have staged {l : List (Nat × List Byte)} : Guided none p (t.setNode { t.node with staging := l }) := unforced
      dsimp only
      split
      · unfold stageSegment
        dsimp only
        split
        · exact guided_completeImage staged
        · exact staged.some
      · exact ignored.some
  next => exact ignored.some

theorem answerGuided_config (h : Guided i p s) : AnswerGuided (execConfig s) := by
  have popped : Guided i p (popQueue s) := h
  unfold execConfig
  split
  · exact .next h
  · obtain ⟨_, taken⟩ := guided_takeConfig popped
    exact .done taken

theorem answerGuided_takeAssign {serial : BitVec 24} {position : Nat} (h : Guided i p t) :
    AnswerGuided (.next (takeAssign serial position t)) := by
  have refused : Guided i p (refuseAssign t) := guided_placeNotice (t := t.setNode _) h
  have ignored {n : Nat} : Guided i p (t.setNode { t.node with assignIgnored := n }) := h
  unfold takeAssign
  split
  · split
    · exact .next refused
    · split
      · exact .next refused
      · exact .next (guided_enterListen (guidedInto_restartBlocks _))
  · exact .next ignored

theorem answerGuided_assign (h : Guided i p s) : AnswerGuided (execAssign s) := by
  have popped : Guided i p (popQueue s) := h
  unfold execAssign
  split
  · exact .next h
  · split
    · exact .next popped
    · exact answerGuided_takeAssign popped

theorem answerGuided_ownStationFrame (h : Guided i p s) : AnswerGuided (execOwnStationFrame s) := by
  have popped : Guided i p (popQueue s) := h
  unfold execOwnStationFrame
  split
  · exact .next h
  · exact .next (.ite (guided_enterConflict popped) popped)

/-! ## The peer monitor and the queries (spec 03) -/

theorem answerGuided_report (h : Guided i p s) : AnswerGuided (execReport s) := by
  have taken {f : RxFrame} : Guided i p (takeReport f (popQueue s)) := by
    unfold takeReport
    split <;> exact h
  unfold execReport
  split
  · exact .next h
  · exact .next taken

theorem answerGuided_peerLost {station : Nat} (h : Guided i p s) : AnswerGuided (execPeerLost station s) := by
  have lost {x : Peers} : Guided i p (s.setPeers x) := h
  unfold execPeerLost
  split
  · exact .next h
  · exact .next lost

theorem answerGuided_winch (h : Guided i p s) : AnswerGuided (execWinch s) := by
  have taken {f : RxFrame} : Guided i p (takeWinch f (popQueue s)) := by
    unfold takeWinch
    refine .ite h ?_
    split <;> exact h
  unfold execWinch
  split
  · exact .next h
  · exact .next taken

theorem guided_placeAnswer {asker code : Nat} {result : AnswerResult} {data : List Byte} (h : Guided i p t) :
    Guided i p (placeAnswer asker code result data t) := guided_placeFrame h

theorem answerGuided_onQuery {code : QueryCode} {act : QueryRead → State → State} (h : Guided i p s)
    (acts : ∀ q, Guided i p (popQueue s) → AnswerGuided (done (act q (popQueue s)))) : AnswerGuided (onQuery code act s) := by
  have popped : Guided i p (popQueue s) := h
  unfold onQuery
  split
  · exact .next h
  · refine .ite ?_ (.next h)
    split
    · exact acts _ popped
    · exact .done popped

theorem answerGuided_answerOk {code : QueryCode} {data : State → List Byte} (h : Guided i p s) :
    AnswerGuided (onQuery code (answerOk data) s) := answerGuided_onQuery h fun _ k => .done (guided_placeAnswer k)

theorem guided_answerIndexed {α : Type} {top : Nat} {l : List α} {data : α → List Byte} {q : QueryRead}
    (h : Guided i p t) : Guided i p (answerIndexed top l data q t) := by
  unfold answerIndexed
  refine .ite (guided_placeAnswer h) ?_
  split <;> exact guided_placeAnswer h

theorem answerGuided_fault (h : Guided i p s) : AnswerGuided (execFault s) :=
  answerGuided_onQuery h fun _ k => .done (guided_answerIndexed k)

theorem answerGuided_winchLog (h : Guided i p s) : AnswerGuided (execWinchLog s) :=
  answerGuided_onQuery h fun _ k => .done (.ite (guided_answerIndexed k) (guided_placeAnswer k))

theorem answerGuided_restart (h : Guided i p s) : AnswerGuided (execRestart s) :=
  answerGuided_onQuery h fun _ k => by
    split
    · exact .done (guided_placeAnswer k)
    · exact .done (guided_enterListen (guidedInto_placeFrame (guidedInto_restartBlocks _)))

/-- RECHECK is accepted in SAFE, where an image is in force. -/
theorem answerGuided_recheck (h : Guided i p s) : AnswerGuided (execRecheck s) :=
  answerGuided_onQuery h fun _ k => by
    split
    next safe =>
      have imaged : i ≠ none := k.imaged (by rw [safe]; simp [MayLackImage])
      exact .done (guided_enterCheck imaged (guided_placeAnswer k))
    next => exact .done (guided_placeAnswer k)

theorem answerGuided_queryUnknownCode (h : Guided i p s) : AnswerGuided (execQueryUnknownCode s) := by
  have popped : Guided i p (popQueue s) := h
  have answered {asker code : Nat} : Guided i p (placeAnswer asker code .unknown [] (popQueue s)) := guided_placeAnswer popped
  unfold execQueryUnknownCode
  split
  · exact .next h
  · split
    · exact .next popped
    · exact .ite (.next h) (.next (.ite answered popped))

/-! ## The command intake (spec 04) -/

/-- RUN is entered from SAFE and FAILSAFE alone, where an image is in force. -/
theorem guided_judgeCommand (steer : inPerMille t.intake.record.steer) (h : Guided i p t) : Guided i p (judgeCommand t) := by
  have offered : Guided i p (offerCommand t) := guided_offerCommand steer h
  have armed {b : Bool} : Guided i p (offerCommand (t.setNode { t.node with armWait := b })) :=
    guided_offerCommand (t := t.setNode { t.node with armWait := b }) steer h
  have ran (imaged : i ≠ none) : Guided i p (offerCommand (enterRun t)) := by
    refine guided_offerCommand ?_ (guided_enterRun (h.into_any imaged))
    unfold enterRun
    rw [NodeControl.moveTo_eq]
    exact steer
  unfold judgeCommand
  dsimp only
  split
  next safe => exact .ite (.ite offered (ran (h.imaged (by rw [safe]; simp [MayLackImage])))) armed
  next => exact offered
  next failsafe => exact .ite (ran (h.imaged (by rw [failsafe]; simp [MayLackImage]))) h
  all_goals exact h

/-- The steer of a new record is clamped (R62). -/
theorem guided_dealCommand {sender : Nat} {payload : List Byte} (h : Guided i p t) :
    Guided i p (dealCommand sender payload t) := by
  have refreshed : Guided i p (refreshLink sender t) := h
  have taken {c : CommandFrame} : Guided i p (takeCommand sender c t) :=
    guided_judgeCommand (t := (refreshLink sender t).setIntake _) (CommandIntake.inPerMille_clampInt c.steer) h
  unfold dealCommand
  refine .ite h ?_
  split
  · exact h
  · exact .ite refreshed taken

theorem answerGuided_command (h : Guided i p s) : AnswerGuided (execCommand s) := by
  have popped : Guided i p (popQueue s) := h
  unfold execCommand
  split
  · exact .next h
  · exact .done (guided_dealCommand popped)

theorem answerGuided_linkExpiry (h : Guided i p s) : AnswerGuided (execLinkExpiry s) := by
  have unbound {x : Intake} : Guided i p (s.setIntake x) := h
  unfold execLinkExpiry
  refine .ite ?_ (.next h)
  split
  · exact .next unbound
  next run =>
    have imaged : i ≠ none := h.imaged (by rw [run]; simp [MayLackImage])
    exact .done (guided_enterFailsafe (unbound.into_any imaged))
  · exact .next unbound
  all_goals exact .next h

/-! ## The power supervisor (spec 05) -/

theorem guided_cutoffOn {cause : Option CutoffCause} (h : Guided i p t) : Guided i p (cutoffOn cause t) := by
  cases cause with
  | none => exact h
  | some c => exact guided_enterCutoff h

theorem guided_stageJudge (h : Guided i p t) : Guided i p (stageJudge t) := by
  have levelled {x : Power} : Guided i p (t.setPower x) := h
  exact guided_cutoffOn (guided_cutoffOn (.ite levelled (guided_raiseEvent levelled)))

theorem guided_budgetTick {r : BudgetReadings} (h : Guided i p t) : Guided i p (budgetTick r t) := by
  have read : Guided i p (stagePack (stageReadings r t)) := h
  have shared {s : State} {x : Power} (h : Guided i p s) : Guided i p (clearMarks (s.setPower x)) := h
  exact shared (guided_stageJudge read)

theorem answerGuided_budgetTick {r : BudgetReadings} (h : Guided i p s) : AnswerGuided (execBudgetTick r s) := by
  have presented : Guided i p (presentReadings r s) := h
  unfold execBudgetTick
  exact .ite (.done (guided_budgetTick presented)) (.next presented)

theorem answerGuided_peerCutoffTest (h : Guided i p s) : AnswerGuided (execPeerCutoffTest s) := by
  have timed : Guided i p (s.setPower { s.power with timer := 0 }) := h
  exact .ite (.next h) (.done (.ite (guided_enterCutoff timed) timed))

/-! ## The drive unit (spec 07) -/

theorem guided_loseEncoder (h : Guided i p t) : Guided i p (loseEncoder t) := guided_addFault (t := t.setDrive _) h

theorem guided_watchLoss (h : Guided i p t) : Guided i p (watchLoss t) := .ite h (.ite (.ite (guided_loseEncoder h) h) h)

theorem guided_writeIf {set : Option Setting} (h : Guided i p t) : Guided i p (writeIf set t) := by
  cases set <;> exact h

theorem guided_setDriveFlags (h : Guided i p t) : Guided i p (setDriveFlags t) :=
  .ite h (guided_raiseEvent (t := t.setDrive _) h)

theorem guided_cornerTick {isa : Nat} (h : Guided i p t) : Guided i p (cornerTick isa t) := by
  have watched := guided_watchLoss (guided_setDrive
    (x := { t.drive with measured := measuredSpeed t.drive, speed := wheelSpeed t (measuredSpeed t.drive) }) h)
  exact guided_setDriveFlags (guided_writeIf (guided_setDrive (guided_setDrive watched)))

theorem answerGuided_driveTick {isa : Nat} (h : Guided i p s) : AnswerGuided (execDriveTick isa s) := by
  have timed {x : Pins} {y : Drive} : Guided i p ((s.setPins x).setDrive y) := h
  have measured {x : Pins} {y z : Drive} : Guided i p (((s.setPins x).setDrive y).setDrive z) := h
  unfold execDriveTick
  dsimp only
  split
  · exact .done (guided_cornerTick timed)
  · exact .next measured
  all_goals exact .next timed

theorem guided_countRecovery {dir : Direction} (h : Guided i p t) : Guided i p (countRecovery dir t) := by
  unfold countRecovery
  exact .ite (.ite (.ite h h) h) h

theorem guided_drumEdge {dir : Direction} (h : Guided i p t) : Guided i p (drumEdge dir t) := by
  have counted {x : Winch} : Guided i p (t.setWinch x) := h
  unfold drumEdge
  exact .ite (guided_endOperation counted) counted

theorem answerGuided_encoderEdge {dir : Direction} {interval : Nat} (h : Guided i p s) :
    AnswerGuided (execEncoderEdge dir interval s) := by
  unfold execEncoderEdge
  dsimp only
  split
  · exact .next (guided_countRecovery (guided_setDrive h))
  · exact .done (guided_drumEdge (guided_setDrive h))
  · exact .next h
  · exact .next h

theorem guided_tripA (h : Guided i p t) : Guided i p (tripA t) := by
  have withdrawn : Guided i p (withdrawByTrips t) := guided_addFault (guided_withdrawA (guided_setDrive h))
  have opened {x : Drive} {y : Winch} : Guided i p (((forceBridgeA .off 0 (zeroDrive t)).setDrive x).setWinch y) := h
  unfold tripA
  exact .ite withdrawn (guided_addFault opened)

theorem answerGuided_overcurrentTrip {current : Nat} (h : Guided i p s) : AnswerGuided (execOvercurrentTrip current s) :=
  .ite (.done (guided_tripA h)) (.next h)

/-! ## The winch unit (spec 08) -/

theorem guided_fromBraked {isb : Nat} (h : Guided i p t) : Guided i p (fromBraked isb t) := by
  have engaged {s : State} {x : Winch} (h : Guided i p s) : Guided i p (s.setWinch x) := h
  have engaging {dir : WinchDir} : Guided i p (startEngaging dir t) := engaged (guided_setDrum h)
  have driven {s : State} (h : Guided i p s) : Guided i p (driveSolenoid isb s) := h
  have freed : Guided i p (startFreespool isb t) := driven (guided_setDrum h)
  unfold fromBraked
  dsimp only
  split
  · exact .ite freed h
  · exact .ite h engaging

theorem guided_drumLoop {dir : WinchDir} {isa : Nat} (h : Guided i p t) : Guided i p (drumLoop dir isa t) := .ite h h

theorem guided_watchDrum {isa : Nat} (h : Guided i p t) : Guided i p (watchDrum isa t) := by
  have watched {x : Winch} : Guided i p (t.setWinch x) := h
  unfold watchDrum
  refine .ite ?_ watched
  split
  · exact watched
  · exact .ite (guided_endOperation h) h

theorem guided_setDrumTarget {dir : WinchDir} (h : Guided i p t) : Guided i p (setDrumTarget dir t) := h

theorem guided_fromRunning {dir : WinchDir} {isa : Nat} (h : Guided i p t) : Guided i p (fromRunning dir isa t) := by
  have looped : Guided i p (drumLoop dir isa (setDrumTarget dir t)) := guided_drumLoop (guided_setDrumTarget h)
  unfold fromRunning
  exact .ite (.ite (guided_watchDrum looped) looped) (guided_endOperation h)

theorem guided_engageEnd (h : Guided i p t) : Guided i p (engageEnd t) := by
  have turned {x : Winch} : Guided i p (t.setWinch x) := h
  have givenUp : Guided i p (setDrum .braked (closeOperation .lever t)) := guided_setDrum (guided_closeOperation h)
  unfold engageEnd
  split
  · exact givenUp
  · exact .ite (guided_setDrumTarget (guided_setDrum turned)) givenUp

theorem guided_runEntered {isa : Nat} (h : Guided i p t) : Guided i p (runEntered isa t) :=
  .ite (guided_watchDrum (guided_drumLoop h)) (.ite (guided_drumLoop h) h)

theorem guided_fromEngaging {isa : Nat} (h : Guided i p t) : Guided i p (fromEngaging isa t) := by
  unfold fromEngaging
  refine .ite (guided_setDrum (guided_closeOperation h)) ?_
  split
  · exact h
  · exact .ite (guided_runEntered (guided_engageEnd h)) h

theorem guided_fromFreespool {isb : Nat} (h : Guided i p t) : Guided i p (fromFreespool isb t) :=
  .ite h (guided_setDrum (t := offBridgeB t) h)

theorem guided_fromBlocked {dir : WinchDir} (h : Guided i p t) : Guided i p (fromBlocked dir t) :=
  .ite h (guided_setDrum h)

theorem guided_restDrum (h : Guided i p t) : Guided i p (restDrum t) := .ite h h

theorem guided_drumTick {isa isb : Nat} (h : Guided i p t) : Guided i p (drumTick isa isb t) := by
  have rested := guided_restDrum h
  unfold drumTick
  split
  · exact guided_fromBraked rested
  · exact guided_fromEngaging rested
  · exact guided_fromRunning h
  · exact guided_fromRunning h
  · exact guided_fromBlocked rested
  · exact guided_fromBlocked rested
  · exact guided_fromBlocked rested
  · exact guided_fromFreespool rested
  · exact rested

theorem answerGuided_controlTick {isa isb : Nat} (h : Guided i p s) : AnswerGuided (execControlTick isa isb s) := by
  have read : Guided i p (readControl isa isb s) := h
  have pinned {x : Pins} : Guided i p (s.setPins x) := h
  unfold execControlTick
  exact .ite (.ite (.done (guided_drumTick read)) (.next (guided_restDrum read))) (.next pinned)

theorem answerGuided_limitAcceptance {sw0 sw1 : Option SwitchLevel} (h : Guided i p s) :
    AnswerGuided (execLimitAcceptance sw0 sw1 s) := by
  have pinned {x : Pins} : Guided i p (s.setPins x) := h
  have accepted {x : Pins} {y : Winch} : Guided i p ((s.setPins x).setWinch y) := h
  unfold execLimitAcceptance acceptLimits
  exact .ite (.done (.ite (guided_endOperation accepted) (.ite (guided_endOperation accepted) accepted))) (.next pinned)

/-! ## The output monitor (spec 10) -/

section
variable {x : CheckStep}

theorem guided_setRecord {f : CheckRecord → CheckRecord} (h : Guided i p t) : Guided i p (setRecord f t) := h

theorem guided_restorePrior (h : Guided i p t) : Guided i p (restorePrior x t) :=
  .ite (.ite h (guided_raiseEvent (t := t.setSteer _) h)) h

theorem guided_failA {result : CheckResult} (imaged : i ≠ none) (h : Guided i p t) : Guided i p (failA result x t) :=
  guided_completeStep imaged (guided_withdrawA (guided_addFault (guided_setRecord h)))

theorem guided_failB {result : CheckResult} (imaged : i ≠ none) (h : Guided i p t) : Guided i p (failB result x t) :=
  guided_completeStep imaged (guided_withdrawB (guided_addFault (guided_setRecord (guided_restorePrior h))))

theorem guided_passA (imaged : i ≠ none) (h : Guided i p t) : Guided i p (passA t) :=
  guided_completeStep imaged (guided_setRecord h)

theorem guided_passB (imaged : i ≠ none) (h : Guided i p t) : Guided i p (passB t) :=
  guided_completeStep imaged (guided_setRecord h)

theorem guided_judgePair {left right : Nat} (imaged : i ≠ none) (h : Guided i p t) : Guided i p (judgePair left right t) := by
  have calibrated {s : State} {c : Option Calibration} {b : Bool} (h : Guided i p s) :
      Guided i p (s.setSteer { s.steer with calibration := c, steerLost := b }) := h
  have swept {x : Monitor} : Guided i p (t.setMonitor x) := h
  unfold judgePair
  exact .ite (guided_beginStep (guided_setRecord (calibrated (.ite (guided_raiseEvent swept) swept)))) (guided_failB imaged h)

end

section
variable (imaged : ∀ x, s.monitor.position = some x → i ≠ none)
include imaged

theorem answerGuided_supplyTestRetry {vpack : Int} (h : Guided i p s) : AnswerGuided (execSupplyTestRetry vpack s) := by
  have timed {x : Pins} {y : Monitor} : Guided i p ((s.setPins x).setMonitor y) := h
  unfold execSupplyTestRetry
  split
  next supply => exact .ite (.done (guided_completeStep (imaged _ supply) (guided_setPins h))) (.next timed)
  next => exact .next h

theorem answerGuided_pullTestEnd {out vpack : Int} (h : Guided i p s) : AnswerGuided (execPullTestEnd out vpack s) := by
  have read {x : Pins} : Guided i p (s.setPins x) := h
  unfold execPullTestEnd
  split
  next position => exact .done (.ite (guided_failA (imaged _ position) read) (guided_completeStep (imaged _ position) read))
  next position => exact .done (.ite (guided_failA (imaged _ position) read) (guided_completeStep (imaged _ position) read))
  next position => exact .done (.ite (guided_failB (imaged _ position) read) (guided_completeStep (imaged _ position) read))
  next position => exact .done (.ite (guided_failB (imaged _ position) read) (guided_completeStep (imaged _ position) read))
  next => exact .next h

theorem answerGuided_loadPulseEnd {current : Nat} (h : Guided i p s) : AnswerGuided (execLoadPulseEnd current s) := by
  unfold execLoadPulseEnd
  dsimp only
  split
  next position =>
    exact .ite (.next h) (.done (.ite (guided_passA (imaged _ position) h) (guided_failA (imaged _ position) h)))
  next position =>
    exact .ite (.next h) (.done (.ite (guided_passB (imaged _ position) h) (guided_failB (imaged _ position) h)))
  next => exact .next h

theorem answerGuided_loadPulseTrip {current : Nat} (h : Guided i p s) : AnswerGuided (execLoadPulseTrip current s) := by
  unfold execLoadPulseTrip
  split
  next position => exact .ite (.done (guided_failA (imaged _ position) h)) (.next h)
  next position => exact .ite (.done (guided_failB (imaged _ position) h)) (.next h)
  next => exact .next h

theorem answerGuided_lampPresenceTestEnd {pin vpack : Int} (h : Guided i p s) :
    AnswerGuided (execLampPresenceTestEnd pin vpack s) := by
  unfold execLampPresenceTestEnd
  split
  next l position =>
    have absent {x : Pins} : Guided i p (lampAbsent l (s.setPins x)) :=
      guided_completeStep (imaged _ position) (guided_setMonitor (guided_setRecord (guided_setPins h)))
    exact .ite (.next (guided_beginStep (guided_setPins h))) (.done absent)
  next => exact .next h

theorem answerGuided_lampRatingEnd {mean : Nat} (h : Guided i p s) : AnswerGuided (execLampRatingEnd mean s) := by
  unfold execLampRatingEnd
  split
  next position => exact .done (guided_completeStep (imaged _ position) (guided_setMonitor (guided_setRecord h)))
  next => exact .next h

theorem answerGuided_lampRatingShort {current : Nat} (h : Guided i p s) : AnswerGuided (execLampRatingShort current s) := by
  unfold execLampRatingShort
  split
  next position =>
    exact .ite (.done (guided_completeStep (imaged _ position) (guided_withdrawLamp (guided_setRecord h)))) (.next h)
  next => exact .next h

theorem imaged_of_sweeping {x : CheckStep} (phase : sweeping s = some x) : i ≠ none :=
  imaged x (NodeControl.position_of_sweeping phase)

theorem answerGuided_sweepStopFound {pot : Nat} (h : Guided i p s) : AnswerGuided (execSweepStopFound pot s) := by
  unfold execSweepStopFound
  dsimp only
  split
  next => exact .next (guided_beginStep (guided_setMonitor (guided_setPins h)))
  next phase => exact .done (guided_judgePair (imaged_of_sweeping imaged phase) (guided_setPins h))
  next => exact .next h

theorem answerGuided_sweepPhaseTimeout (h : Guided i p s) : AnswerGuided (execSweepPhaseTimeout s) := by
  unfold execSweepPhaseTimeout
  split
  next phase => exact .done (guided_failB (imaged_of_sweeping imaged phase) h)
  next phase => exact .done (guided_failB (imaged_of_sweeping imaged phase) h)
  next => exact .next h

theorem answerGuided_sweepFault (h : Guided i p s) : AnswerGuided (execSweepFault s) := by
  unfold execSweepFault
  split
  next phase => exact .done (guided_failB (imaged_of_sweeping imaged phase) h)
  next => exact .next h

theorem answerGuided_sweepReturnEnd (h : Guided i p s) : AnswerGuided (execSweepReturnEnd s) := by
  have braked : Guided i p (forceBridgeB .brake 0 s) := h
  unfold execSweepReturnEnd
  split
  next phase => exact .done (guided_completeStep (imaged_of_sweeping imaged phase) braked)
  next => exact .next h

/-- A step that a change of the thermal class releases or abandons was under way before it (R196). -/
theorem guided_thermalChange {before : ThermalClass} (under : t.monitor.position = s.monitor.position) (h : Guided i p t) :
    Guided i p (thermalChange before t) := by
  have acted : Guided i p (thermalEffects before t) := guided_thermalEffects h
  have rested {s : State} (h : Guided i p s) : Guided i p (restBridges s) := h
  have position : (thermalEffects before t).monitor.position = s.monitor.position :=
    (NodeControl.steady_thermalEffects (.refl t)).position.trans under
  unfold thermalChange checkThermal
  split
  next => exact acted
  next x step =>
    have forced : i ≠ none := imaged x (position.symm.trans step)
    exact .ite (guided_setMonitor (guided_setRecord (rested acted)))
      (.ite (.ite (guided_completeStep forced acted) (guided_beginStep acted)) acted)

theorem answerGuided_temperatureReading {ts1 die : Int} (h : Guided i p s) :
    AnswerGuided (execTemperatureReading ts1 die s) := by
  have pinned {x : Pins} : NodeControl.Steady s (s.setPins x) := NodeControl.steady_setPins (.refl s)
  exact .done (guided_thermalChange imaged
    (NodeControl.steady_setMonitor (NodeControl.steady_readSensor (NodeControl.steady_readSensor pinned))).position
    (guided_setMonitor (guided_readSensor (guided_readSensor (guided_setPins h)))))

theorem answerGuided_thermalSensorFault {x : Sensor} {reading : Int} (h : Guided i p s) :
    AnswerGuided (execThermalSensorFault x reading s) :=
  .ite (.done (guided_thermalChange imaged (NodeControl.steady_failSensor (.refl s)).position (guided_failSensor h))) (.next h)

end

theorem answerGuided_supplyDip {vpack : Int} (h : Guided i p s) : AnswerGuided (execSupplyDip vpack s) := by
  have dipped {x : Pins} : Guided i p (dipSequence (s.setPins x)) := h
  unfold execSupplyDip
  exact .ite (.next dipped) (.next h)

theorem guided_tripB (h : Guided i p t) : Guided i p (tripB t) := by
  have off {x : Monitor} : Guided i p ((offBridgeB t).setMonitor x) := h
  unfold tripB
  exact .ite (guided_addFault (guided_withdrawB (.ite (guided_setDrum off) off)))
    (guided_addFault (.ite (guided_setDrum off) off))

theorem answerGuided_bridgeBTrip {current : Nat} (h : Guided i p s) : AnswerGuided (execBridgeBTrip current s) :=
  .ite (.done (guided_tripB h)) (.next h)

end Sys2Proof.Steering
end

section
/-! THEOREM. Every command and every step keep the steering targets within the limit (O44). -/

namespace Sys2Proof.Steering

open Sys2Proof Sys2Proof.Machine Sys2Proof.Safety

variable {s t : State} {i : Option ImageInForce} {p : Option Position}

/-- The reset leaves no image, no position and the targets at 0. -/
theorem answerGuided_powerOnReset (s : State) : AnswerGuided (execPowerOnReset s) :=
  .next (i := none) (p := none) (WithinLimit.of_rest (x := steerFiguresOf State.reset) ⟨rfl, rfl, rfl⟩ (fun _ => rfl)
    fun _ => .inl rfl)

theorem answerGuided_exec (c : Instr) (h : Guided i p s) (imaged : ∀ x, s.monitor.position = some x → i ≠ none) :
    AnswerGuided (exec c s) := by
  cases c with
  | powerOnReset => exact answerGuided_powerOnReset s
  | busIdle => exact .next (t := setRx _ s) h
  | frameReceived bytes => exact answerGuided_frameReceived h
  | receptionFailed how => exact answerGuided_receptionFailed h
  | breakRecognised => exact answerGuided_breakRecognised h
  | attemptStart => exact answerGuided_attemptStart h
  | arbitrationLost => exact answerGuided_arbitrationLost h
  | lineFault => exact answerGuided_lineFault h
  | collision => exact answerGuided_collision h
  | backoffExpiry kind => exact .next (t := setSlot kind _ s) h
  | attemptComplete => exact answerGuided_attemptComplete h
  | breakEnd => exact .next (t := setTx _ s) h
  | strapReadSuccess p => exact answerGuided_strapReadSuccess h
  | strapReadFail last => exact answerGuided_strapReadFail h
  | silenceTimerExpiry => exact answerGuided_silenceTimerExpiry h
  | defaultTimerExpiry => exact answerGuided_defaultTimerExpiry h
  | config => exact answerGuided_config h
  | assign => exact answerGuided_assign h
  | ownStationFrame => exact answerGuided_ownStationFrame h
  | conflictNoticeTimer => exact .next (.ite (guided_placeNotice h) h)
  | uptimeTick => exact .next (t := s.setNode _) h
  | reportTimerExpiry => exact .next (.ite (guided_placeReport h) h)
  | heldEventSpacingExpiry => exact .next (.ite (guided_placeReport h) h)
  | report => exact answerGuided_report h
  | peerLost station => exact answerGuided_peerLost h
  | winch => exact answerGuided_winch h
  | winchLinkExpiry => exact .next (t := s.setPeers _) h
  | checkRecord => exact answerGuided_answerOk h
  | fault => exact answerGuided_fault h
  | winchLog => exact answerGuided_winchLog h
  | counters => exact answerGuided_answerOk h
  | image => exact answerGuided_answerOk h
  | budget => exact answerGuided_answerOk h
  | restart => exact answerGuided_restart h
  | recheck => exact answerGuided_recheck h
  | queryUnknownCode => exact answerGuided_queryUnknownCode h
  | command => exact answerGuided_command h
  | linkExpiry => exact answerGuided_linkExpiry h
  | failsafeStage2 => exact .ite (.next (t := offBridgeB (s.setIntake _)) h) (.next h)
  | budgetTick r => exact answerGuided_budgetTick h
  | peerCutoffTest => exact answerGuided_peerCutoffTest h
  | actuatorTick pot isb => exact answerGuided_actuatorTick h
  | steerStall => exact answerGuided_steerStall h
  | stallLimitEnd => exact .next (t := s.setSteer _) h
  | steerSensorLost pot => exact answerGuided_steerSensorLost h
  | driveTick isa => exact answerGuided_driveTick h
  | encoderEdge dir interval => exact answerGuided_encoderEdge h
  | encoderEdgeTimeout => exact .next (.ite h h)
  | encoderLost => exact .ite (.done (guided_loseEncoder h)) (.next h)
  | encoderRecovered => exact .next (.ite h h)
  | overcurrentTrip current => exact answerGuided_overcurrentTrip h
  | tripWaitEnd => exact .next (t := s.setDrive _) h
  | controlTick isa isb => exact answerGuided_controlTick h
  | limitAcceptance sw0 sw1 => exact answerGuided_limitAcceptance h
  | engageDelayEnd => exact .ite (.done (guided_engageEnd h)) (.next h)
  | winchStall => exact .ite (.done (guided_endOperation h)) (.next h)
  | winchTimerExpiry => exact .next (.ite (guided_placeWinch h) h)
  | beatEvent => exact .next (.ite (guided_beatStep h) h)
  | beatTaken => exact answerGuided_beatTaken h
  | lampShort l current => exact .ite (.done (guided_withdrawLamp h)) (.next h)
  | supplyTestRetry vpack => exact answerGuided_supplyTestRetry imaged h
  | pullTestEnd out vpack => exact answerGuided_pullTestEnd imaged h
  | loadPulseEnd current => exact answerGuided_loadPulseEnd imaged h
  | loadPulseTrip current => exact answerGuided_loadPulseTrip imaged h
  | lampPresenceTestEnd pin vpack => exact answerGuided_lampPresenceTestEnd imaged h
  | lampRatingEnd mean => exact answerGuided_lampRatingEnd imaged h
  | lampRatingShort current => exact answerGuided_lampRatingShort imaged h
  | sweepStopFound pot => exact answerGuided_sweepStopFound imaged h
  | sweepPhaseTimeout => exact answerGuided_sweepPhaseTimeout imaged h
  | sweepFault => exact answerGuided_sweepFault imaged h
  | sweepReturnEnd => exact answerGuided_sweepReturnEnd imaged h
  | supplyDip vpack => exact answerGuided_supplyDip h
  | bridgeBTrip current => exact answerGuided_bridgeBTrip h
  | bridgeBTripWaitEnd => exact .next (t := s.setMonitor _) h
  | temperatureReading ts1 die => exact answerGuided_temperatureReading imaged h
  | thermalSensorFault x reading => exact answerGuided_thermalSensorFault imaged h
  | frameStart => exact .next (t := setRx _ s) h
  | pwmPeriodBoundary => exact .next (t := (s.setBridgeA _).setBridgeB _) h

/-- A CHECK step is under way in CHECK alone, where an image is in force. -/
theorem imaged_of_check (outputs : OutputsInv s) (h : Guided i p s) (x : CheckStep) (under : s.monitor.position = some x) :
    i ≠ none :=
  h.imaged (by rw [NodeControl.check_of_position under outputs]; simp [MayLackImage])

theorem step_keeps_steerInv (outputs : OutputsInv s) (inv : SteerInv s) (run : step s = .next t) : SteerInv t := by
  have h := guided_of_steerInv inv
  unfold step at run
  split at run
  next =>
    cases run
    have aged : Guided s.node.image s.node.position (clockTick s) := h
    exact aged.steerInv
  next c rest _ =>
    have waiting : Guided s.node.image s.node.position (s.setPending rest) := h
    exact answerGuided_exec c waiting (fun x under => imaged_of_check outputs h x under) t run

/-- Settles O44: the geometry case by case, and the steering targets command by command. -/
theorem wheelAnglesStayInTheirLimits : Obligations.WheelAnglesStayInTheirLimits := by
  unfold Obligations.WheelAnglesStayInTheirLimits
  refine ⟨fun i p m x ind _ _ range => ?_, fun _ _ => step_keeps_steerInv⟩
  have g : HoldsTo i p m ind (geometryOf i p m x ind) := holdsTo_geometryOf range
  refine ⟨g.mode, g.indicator, g.ratio, ?_, g.straight, g.crab⟩
  cases axle : axleAt i.vehicle p with
  | none =>
    have bare : limitAt i p = 0 := by rw [limitAt, axle]; rfl
    exact Int.natAbs_eq_zero.1 (Nat.le_zero.1 (bare ▸ g.within))
  | some a => exact ⟨limitAt_of_axle axle ▸ g.within, g.fixed a axle⟩

end Sys2Proof.Steering
end

section
/-! SUPPORT and THEOREM. A stall, its limit's end and the loss of the sensor (O46). -/

namespace Sys2Proof.Steering

open Sys2Proof Sys2Proof.Machine Sys2Proof.Safety

variable {s t u : State}

/-! ## What an event or a record leaves (R43, R200) -/

theorem sameButReport_raiseEvent (e : ReportEvent) (s : State) : SameButReport s (raiseEvent e s) := by
  rw [NodeControl.raiseEvent_frame]
  rfl

/-- A fault record of a steering unit's fault, on bridge B in the present node state. -/
def steerRecord (kind : FaultKind) (detail : Int) (s : State) : FaultRecord :=
  { kind, output := .bridgeB, state := s.node.state, uptime := s.node.uptime, detail := clampInt (-32768) 32767 detail }

theorem sameButReport_addFault (kind : FaultKind) (detail : Int) (s : State) :
    SameButReport (s.setMonitor { s.monitor with faults := (steerRecord kind detail s :: s.monitor.faults).take 8 })
      (addFault kind .bridgeB detail s) := sameButReport_raiseEvent _ _

/-! ## A stall (R125) -/

/-- The stalls of the last 10 s. -/
def recentStalls (s : State) : List Nat := s.steer.stallHistory.filter fun x => s.now - x ≤ 10000

/-- The stall history after a stall: the third one empties it. -/
def stallHistoryAfter (s : State) : List Nat := if 2 ≤ (recentStalls s).length then [] else recentStalls s ++ [s.now]

/-- The fault list after a stall: the third one adds a record. -/
def stallFaults (err : Int) (s : State) : List FaultRecord :=
  if 2 ≤ (recentStalls s).length then (steerRecord .steerStall err s :: s.monitor.faults).take 8 else s.monitor.faults

/-- The limit in force, the window closed, and the stall counted. -/
def stalled (err : Int) (s : State) : State :=
  { s with
    steer := { s.steer with
      stallLimit := some (s.now + 1000), stallWindow := none, stallHistory := stallHistoryAfter s }
    monitor := { s.monitor with faults := stallFaults err s } }

theorem sameButReport_declareStall (err : Int) (s : State) : SameButReport (stalled err s) (declareStall err s) := by
  have recent : s.steer.stallHistory.filter (within s.now 10000) = recentStalls s := rfl
  unfold declareStall stalled stallHistoryAfter stallFaults
  dsimp only
  rw [recent]
  by_cases third : 2 ≤ (recentStalls s).length
  · simp only [if_pos third]
    exact sameButReport_addFault .steerStall err _
  · simp only [if_neg third]
    rfl

/-- A write of bridge B acts alike on both states. -/
theorem sameButReport_writeBridgeB (mode : BridgeMode) (duty : Nat) (h : SameButReport s t) :
    SameButReport (writeBridgeB mode duty s) (writeBridgeB mode duty t) := congrArg (writeBridgeB mode duty) h

/-- The state after STEER_STALL, its events apart: the duty already written is held to 300. -/
def stallHeld (s : State) : State :=
  writeBridgeB s.bridgeB.next.mode (min 300 s.bridgeB.next.duty) (stalled (s.steer.actuator - s.steer.measured) s)

theorem execSteerStall_acts (loop : s.steer.loop = true) (open_ : s.steer.stallWindow ≠ none) :
    ∃ t, execSteerStall s = .next t ∧ SameButReport (stallHeld s) t := by
  have declared := sameButReport_declareStall (s.steer.actuator - s.steer.measured) s
  have bridge : (declareStall (s.steer.actuator - s.steer.measured) s).bridgeB = s.bridgeB := by rw [declared]; rfl
  refine ⟨_, if_pos ⟨loop, Option.isSome_iff_ne_none.2 open_⟩, ?_⟩
  rw [bridge]
  exact NodeControl.sameButReport_trans (sameButReport_writeBridgeB _ _ declared) (NodeControl.sameButReport_settle _)

theorem execSteerStall_rests (rests : s.steer.loop = false ∨ s.steer.stallWindow = none) : execSteerStall s = .next s := by
  refine if_neg fun ⟨loop, open_⟩ => ?_
  rcases rests with idle | closed
  · cases loop.symm.trans idle
  · rw [closed] at open_
    cases open_

/-! ## The loss of the sensor (R126) -/

/-- STEER_SENSOR_LOST acts: on a calibrated corner that serves, with the sample out of range and STEER_LOST clear. -/
def LosesSensor (pot : Nat) (s : State) : Prop :=
  roleOf s = .corner ∧ s.steer.calibration ≠ none ∧ s.steer.steerLost = false ∧ (pot < 100 ∨ 3995 < pot) ∧
    (s.node.state = .safe ∨ s.node.state = .run ∨ s.node.state = .failsafe)

theorem losesSensor_iff (pot : Nat) (s : State) : LosesSensor pot s ↔
    (roleOf s = .corner ∧ s.steer.calibration.isSome ∧ isServing s.node.state ∧ s.steer.steerLost = false ∧ potOut pot) := by
  have out : potOut pot = true ↔ pot < 100 ∨ 3995 < pot := by simp [potOut]
  rw [LosesSensor, out, TrailBus.isServing_iff, Option.isSome_iff_ne_none]
  tauto

/-- The state after the loss, its events apart: the count stands at 20, the bridge is OFF and the loop suspended. -/
def sensorLost (pot : Nat) (s : State) : State :=
  { s with
    pins := { s.pins with pot }
    steer := { s.steer with steerLost := true, lossCount := 20, loop := false }
    bridgeB := s.bridgeB.force .off 0
    monitor := { s.monitor with faults := (steerRecord .steerSensor pot s :: s.monitor.faults).take 8 } }

theorem sameButReport_offBridgeB (h : SameButReport s t) : SameButReport (offBridgeB s) (offBridgeB t) :=
  congrArg offBridgeB h

theorem sameButReport_addFault_of (kind : FaultKind) (detail : Int) (h : SameButReport s t) :
    SameButReport (s.setMonitor { s.monitor with faults := (steerRecord kind detail s :: s.monitor.faults).take 8 })
      (addFault kind .bridgeB detail t) := by
  refine NodeControl.sameButReport_trans ?_ (sameButReport_addFault kind detail t)
  rw [h]
  rfl

theorem execSteerSensorLost_acts {pot : Nat} (acts : LosesSensor pot s) :
    ∃ t, execSteerSensorLost pot s = .next t ∧ SameButReport (sensorLost pot s) t := by
  have lost : SameButReport (sensorLost pot s) (addFault .steerSensor .bridgeB pot (offBridgeB (raiseEvent .steerLostChange
      ((s.setPins { s.pins with pot }).setSteer { s.steer with lossCount := 20, steerLost := true })))) :=
    sameButReport_addFault_of .steerSensor pot (sameButReport_offBridgeB (sameButReport_raiseEvent .steerLostChange _))
  exact ⟨_, if_pos ((losesSensor_iff pot s).1 acts),
    NodeControl.sameButReport_trans lost (NodeControl.sameButReport_settle _)⟩

theorem clampInt_detail_pot (pot : Nat) : clampInt (-32768) 32767 pot = min 32767 (pot : Int) := by
  unfold clampInt
  split
  · omega
  · split <;> omega

/-- Settles O46: each row by its state after the step, from which settling changes the REPORT alone. -/
theorem stallAndSensorLossAct : Obligations.StallAndSensorLossAct := by
  unfold Obligations.StallAndSensorLossAct
  refine ⟨fun s => ?stall, fun s => ⟨_, rfl, rfl⟩, fun pot s => ?lost⟩
  case stall =>
    show ∃ t, execSteerStall s = .next t ∧ _
    by_cases rests : s.steer.loop = false ∨ s.steer.stallWindow = none
    · exact ⟨s, execSteerStall_rests rests, (if_pos rests).mpr rfl⟩
    obtain ⟨idle, open_⟩ := not_or.1 rests
    obtain ⟨t, run, changes⟩ := execSteerStall_acts (Bool.not_eq_false _ ▸ idle) open_
    have steer : t.steer = (stallHeld s).steer := by rw [changes]
    have bridge : t.bridgeB = (stallHeld s).bridgeB := by rw [changes]
    have faults : t.monitor.faults = (stallHeld s).monitor.faults := by rw [changes]
    refine ⟨t, run, (if_neg rests).mpr ?_⟩
    rw [steer, bridge, faults]
    exact ⟨rfl, rfl, rfl, rfl, changes, rfl⟩
  case lost =>
    show ∃ t, execSteerSensorLost pot s = .next t ∧ _
    by_cases acts : LosesSensor pot s
    · obtain ⟨t, run, changes⟩ := execSteerSensorLost_acts acts
      have steer : t.steer = (sensorLost pot s).steer := by rw [changes]
      have bridge : t.bridgeB = (sensorLost pot s).bridgeB := by rw [changes]
      have faults : t.monitor.faults = (sensorLost pot s).monitor.faults := by rw [changes]
      refine ⟨t, run, (if_pos acts).mpr ?_⟩
      rw [steer, bridge, faults, ← clampInt_detail_pot]
      exact ⟨rfl, rfl, rfl, rfl, changes⟩
    · exact ⟨s, if_neg fun holds => acts ((losesSensor_iff pot s).2 holds), (if_neg acts).mpr rfl⟩

end Sys2Proof.Steering
end

section
/-! SUPPORT and THEOREM. The actuator tick (O45). -/

namespace Sys2Proof.Steering

open Sys2Proof Sys2Proof.Machine Sys2Proof.Safety

variable {s t u : State}

/-! ## The start of the loop (R120) -/

/-- The actuator target that a tick starts from. -/
def startAngle (s : State) : Int :=
  if s.steer.loop then s.steer.actuator else clampInt (-axleLimit s) (axleLimit s) s.steer.measured

theorem startLoop_running (loop : s.steer.loop = true) : startLoop s = s := if_pos loop

theorem startLoop_suspended (idle : s.steer.loop = false) : startLoop s = s.setSteer { s.steer with
    actuator := startAngle s, stallWindow := none, stallLimit := none, loop := true } := by
  unfold startLoop startAngle
  rw [idle]
  rfl

/-! ## The figures of a tick on which the loop runs (R121, R123 to R125) -/

/-- The actuator target after its slew. -/
def tickTarget (s : State) : Int := approach (startAngle s) s.steer.presented (fieldsOf s).steer.steerSlew

def tickError (s : State) : Int := tickTarget s - s.steer.measured

def tickCeiling (isb : Nat) (s : State) : Nat := moveCeiling isb s.power.grants.bridgeB s.steer.ceiling

def tickRaw (s : State) : Int := steerRaw (fieldsOf s).steer (tickError s)

/-- The duty under the ceiling. -/
def tickCut (isb : Nat) (s : State) : Int := clampInt (-(tickCeiling isb s : Int)) (tickCeiling isb s) (tickRaw s)

/-- A stall limit of the running loop is in force. -/
abbrev Limited (s : State) : Prop :=
  s.steer.loop = true ∧ (s.steer.stallLimit.any fun e => decide (s.now < e)) = true

/-- The duty under the ceiling and the stall limit. -/
def tickDuty (isb : Nat) (s : State) : Int :=
  if Limited s then clampInt (-300) 300 (tickCut isb s) else tickCut isb s

/-- The loop pushes hard with the error left. -/
abbrev Pushes (err duty : Int) : Prop := 30 < err.natAbs ∧ 400 ≤ duty.natAbs

/-- An open window of the running loop has lasted 300 ms without movement. -/
abbrev Stalls (s : State) (err duty : Int) : Prop :=
  s.steer.loop = true ∧ Pushes err duty ∧
    (s.steer.stallWindow.any fun w =>
      decide ((s.steer.measured - w.angle).natAbs < 5 ∧ 300 ≤ s.now - w.start)) = true

/-- An open window of the running loop has seen no movement. -/
abbrev Still (s : State) : Prop :=
  s.steer.loop = true ∧ (s.steer.stallWindow.any fun w => decide ((s.steer.measured - w.angle).natAbs < 5)) = true

/-- The stall window after a tick. -/
def windowAfter (s : State) (err duty : Int) : Option StallWindow :=
  if Stalls s err duty ∨ ¬ Pushes err duty then none else if Still s then s.steer.stallWindow
  else some { start := s.now, angle := s.steer.measured }

theorem stallLimited_startLoop (s : State) : stallLimited (startLoop s) = decide (Limited s) := by
  by_cases loop : s.steer.loop = true
  · rw [startLoop_running loop]
    unfold stallLimited
    split <;> simp [*]
  · rw [startLoop_suspended (Bool.eq_false_iff.2 loop)]
    simp [stallLimited, loop]

/-- The stall watch of a tick; a loop that just starts finds no window open. -/
theorem watchStall_startLoop (s : State) (err duty : Int) :
    watchStall (startLoop s) err duty = (windowAfter s err duty, decide (Stalls s err duty)) := by
  unfold watchStall windowAfter
  by_cases pushes : Pushes err duty
  · rw [if_pos pushes]
    by_cases loop : s.steer.loop = true
    · rw [startLoop_running loop]
      split
      next window => simp [window, pushes]
      next w window =>
        by_cases moved : (s.steer.measured - w.angle).natAbs < 5
        · by_cases long : 300 ≤ s.now - w.start <;> simp [window, loop, pushes, moved, Nat.not_le.2 moved, long]
        · simp [window, pushes, moved, Nat.not_lt.1 moved]
    · rw [startLoop_suspended (Bool.eq_false_iff.2 loop)]
      simp [loop, pushes]
  · simp [pushes]

/-- The duty that the tick writes. -/
def tickOut (isb : Nat) (s : State) : Int :=
  if Stalls s (tickError s) (tickDuty isb s) then clampInt (-300) 300 (tickDuty isb s) else tickDuty isb s

/-- The state after a tick on which the loop runs, its events apart. -/
def ticked (isb : Nat) (s : State) : State :=
  { s with
    steer := { s.steer with
      loop := true, actuator := tickTarget s, ceiling := tickCeiling isb s
      limited := s.steer.limited || decide (tickCut isb s ≠ tickRaw s)
      stallWindow := windowAfter s (tickError s) (tickDuty isb s)
      stallLimit := if Stalls s (tickError s) (tickDuty isb s) then some (s.now + 1000)
        else if Limited s then s.steer.stallLimit else none
      stallHistory := if ¬ Stalls s (tickError s) (tickDuty isb s) then s.steer.stallHistory else stallHistoryAfter s }
    bridgeB := { s.bridgeB with next := settingOf (tickOut isb s) }
    monitor := { s.monitor with
      faults := if Stalls s (tickError s) (tickDuty isb s) ∧ 2 ≤ (recentStalls s).length then
          (steerRecord .steerStall (tickError s) s :: s.monitor.faults).take 8
        else s.monitor.faults } }

/-- The loop's figures after the slew, before a stall is declared. -/
def slewed (isb : Nat) (s : State) : State :=
  s.setSteer { s.steer with
    loop := true, actuator := tickTarget s, ceiling := tickCeiling isb s
    limited := s.steer.limited || decide (tickCut isb s ≠ tickRaw s)
    stallWindow := windowAfter s (tickError s) (tickDuty isb s)
    stallLimit := if Limited s then s.steer.stallLimit else none }

/-- Of the state a tick starts from, all but the window and the limit. -/
theorem startLoop_fields (s : State) : startLoop s = s.setSteer { s.steer with
    loop := true, actuator := startAngle s, stallWindow := (startLoop s).steer.stallWindow
    stallLimit := (startLoop s).steer.stallLimit } := by
  cases loop : s.steer.loop with
  | false =>
    rw [startLoop_suspended loop]
    rfl
  | true =>
    have angle : startAngle s = s.steer.actuator := if_pos loop
    rw [startLoop_running loop, angle, ← loop]
    rfl

theorem startLoop_actuator (s : State) : (startLoop s).steer.actuator = startAngle s := by rw [startLoop_fields]; rfl

theorem startLoop_presented (s : State) : (startLoop s).steer.presented = s.steer.presented := by rw [startLoop_fields]; rfl

theorem startLoop_measured (s : State) : (startLoop s).steer.measured = s.steer.measured := by rw [startLoop_fields]; rfl

theorem startLoop_ceiling (s : State) : (startLoop s).steer.ceiling = s.steer.ceiling := by rw [startLoop_fields]; rfl

theorem startLoop_limited (s : State) : (startLoop s).steer.limited = s.steer.limited := by rw [startLoop_fields]; rfl

theorem startLoop_power (s : State) : (startLoop s).power = s.power := by rw [startLoop_fields]; rfl

theorem fieldsOf_startLoop (s : State) : fieldsOf (startLoop s) = fieldsOf s := by rw [startLoop_fields]; rfl

theorem slewed_startLoop (isb : Nat) (s : State) : (startLoop s).setSteer { (startLoop s).steer with
    actuator := tickTarget s, ceiling := tickCeiling isb s
    limited := s.steer.limited || decide (tickCut isb s ≠ tickRaw s)
    stallWindow := windowAfter s (tickError s) (tickDuty isb s)
    stallLimit := if Limited s then (startLoop s).steer.stallLimit else none } = slewed isb s := by
  have limit : (if Limited s then (startLoop s).steer.stallLimit else none) =
      if Limited s then s.steer.stallLimit else none := by
    split
    next limited => rw [startLoop_running limited.1]
    next => rfl
  rw [limit, startLoop_fields]
  rfl

theorem loopTick_startLoop (isb : Nat) (s : State) : loopTick isb (startLoop s) =
    writeBridgeB (settingOf (tickOut isb s)).mode (settingOf (tickOut isb s)).duty
      (if Stalls s (tickError s) (tickDuty isb s) then declareStall (tickError s) (slewed isb s) else slewed isb s) := by
  rw [← slewed_startLoop]
  simp only [loopTick, stallLimited_startLoop, watchStall_startLoop, startLoop_actuator, startLoop_presented,
    startLoop_measured, startLoop_ceiling, startLoop_limited, startLoop_power, fieldsOf_startLoop, decide_eq_true_eq]
  rfl

/-- A tick on which the loop runs, its events apart. -/
theorem sameButReport_loopTick (isb : Nat) (s : State) : SameButReport (ticked isb s) (loopTick isb (startLoop s)) := by
  rw [loopTick_startLoop]
  by_cases stalls : Stalls s (tickError s) (tickDuty isb s)
  · have declared := sameButReport_writeBridgeB (settingOf (tickOut isb s)).mode (settingOf (tickOut isb s)).duty
      (sameButReport_declareStall (tickError s) (slewed isb s))
    have same : ticked isb s = writeBridgeB (settingOf (tickOut isb s)).mode (settingOf (tickOut isb s)).duty
        (stalled (tickError s) (slewed isb s)) := by
      have window : windowAfter s (tickError s) (tickDuty isb s) = none := if_pos (.inl stalls)
      simp only [ticked, window, if_pos stalls, if_neg (not_not.2 stalls), and_iff_right stalls]
      rfl
    rw [if_pos stalls, same]
    exact declared
  · have same : ticked isb s = writeBridgeB (settingOf (tickOut isb s)).mode (settingOf (tickOut isb s)).duty
        (slewed isb s) := by
      simp only [ticked, stalls, if_false, not_false_eq_true, if_true, false_and]
      rfl
    rw [if_neg stalls, same]
    rfl

/-! ## The readings of a tick (R119, R122) -/

/-- The measured angle of a tick. -/
def measuredAt (pot : Nat) (s : State) : Int :=
  match s.steer.calibration with
  | none => s.steer.measured
  | some c => rdiv (((pot : Int) - rdivNat (c.left + c.right) 2) * 2 * (fieldsOf s).steer.steerStop)
      ((c.right : Int) - c.left)

/-- The node centres for its axle-mate. -/
abbrev Centres (s : State) : Prop :=
  (s.node.state = .safe ∨ s.node.state = .run ∨ s.node.state = .failsafe) ∧ (axleOf s).isSome = true ∧
    mateSteerLost s = true

/-- The state once a tick has read its pins. -/
def sampled (pot isb : Nat) (s : State) : State :=
  { s with
    pins := { s.pins with pot, isb }
    steer := { s.steer with
      timer := 0, measured := measuredAt pot s, centered := decide (Centres s)
      presented := if Centres s then 0 else s.steer.geometry.target } }

theorem centring_eq (s : State) : centring s = decide (Centres s) := by
  rw [Bool.eq_iff_iff, decide_eq_true_eq, Centres, ← TrailBus.isServing_iff]
  simp only [centring, Bool.and_eq_true, and_assoc]

theorem readActuator_eq (pot isb : Nat) (s : State) : readActuator pot isb s = sampled pot isb s := by
  have presented : (if centring s = true then (0 : Int) else s.steer.geometry.target) =
      if Centres s then 0 else s.steer.geometry.target := by simp only [centring_eq, decide_eq_true_eq]
  unfold readActuator sampled measuredAt
  rw [← presented, ← centring_eq]
  cases s.steer.calibration <;> rfl

/-- The loop may run (R120, R197). -/
abbrev Runs (s : State) : Prop :=
  s.steer.calibration ≠ none ∧ s.monitor.withdrawn.bridgeB = false ∧ s.steer.steerLost = false ∧
    (s.node.state = .run ∨ (s.node.state = .failsafe ∧ s.intake.stage = .one)) ∧
    thermalClass s ≠ .shutdown ∧ s.monitor.tripWait = none

theorem loopAllowed_iff (corner : roleOf s = .corner) : loopAllowed s = true ↔ Runs s := by
  simp only [loopAllowed, Runs, corner, decide_true, Bool.true_and, Bool.and_eq_true, Bool.or_eq_true, decide_eq_true_eq,
    Bool.not_eq_true', Option.isSome_iff_ne_none, Option.isNone_iff_eq_none]
  tauto

/-! ## The tick -/

theorem execActuatorTick_other {pot isb : Nat} (other : roleOf s ≠ .corner) :
    execActuatorTick pot isb s = .next { s with pins := { s.pins with pot, isb } } := if_neg other

theorem execActuatorTick_corner {pot isb : Nat} (corner : roleOf s = .corner) : execActuatorTick pot isb s =
    if loopAllowed (sampled pot isb s) then done (loopTick isb (startLoop (sampled pot isb s)))
    else .next (if s.steer.loop then offBridgeB (sampled pot isb s) else sampled pot isb s) := by
  unfold execActuatorTick
  rw [if_pos corner, readActuator_eq]
  rfl

/-- Where the loop may not run, a running one stops with bridge B OFF (R120). -/
theorem execActuatorTick_stops {pot isb : Nat} (corner : roleOf s = .corner) (stops : ¬ Runs s) :
    execActuatorTick pot isb s = .next { sampled pot isb s with
      steer := { (sampled pot isb s).steer with loop := false }
      bridgeB := if s.steer.loop then s.bridgeB.force .off 0 else s.bridgeB } := by
  have suspended : ¬ loopAllowed (sampled pot isb s) = true :=
    fun allowed => stops ((loopAllowed_iff (s := sampled pot isb s) corner).1 allowed)
  rw [execActuatorTick_corner corner, if_neg suspended]
  cases loop : s.steer.loop with
  | false =>
    have still : { (sampled pot isb s).steer with loop := false } = (sampled pot isb s).steer := by
      rw [← loop]
      rfl
    rw [still]
    rfl
  | true => rfl

theorem execActuatorTick_runs {pot isb : Nat} (corner : roleOf s = .corner) (runs : Runs s) :
    ∃ t, execActuatorTick pot isb s = .next t ∧ SameButReport (ticked isb (sampled pot isb s)) t := by
  have allowed : loopAllowed (sampled pot isb s) = true := (loopAllowed_iff (s := sampled pot isb s) corner).2 runs
  rw [execActuatorTick_corner corner, if_pos allowed]
  exact ⟨_, rfl, NodeControl.sameButReport_trans (sameButReport_loopTick isb _) (NodeControl.sameButReport_settle _)⟩

/-- Settles O45: on a corner the readings are taken, and the tick then stops the loop or runs it, by `ticked`. -/
theorem actuatorTickRunsTheLoop : Obligations.ActuatorTickRunsTheLoop := by
  unfold Obligations.ActuatorTickRunsTheLoop
  intro pot isb s
  show ∃ t, execActuatorTick pot isb s = .next t ∧ _
  by_cases corner : roleOf s = .corner
  case neg => exact ⟨_, execActuatorTick_other corner, (if_pos corner).mpr rfl⟩
  by_cases runs : Runs s
  case neg =>
    refine ⟨_, execActuatorTick_stops corner runs, (if_neg (not_not.2 corner)).mpr ?_⟩
    refine ⟨rfl, rfl, rfl, ?_, rfl, rfl, (if_pos runs).mpr ⟨rfl, ?_⟩⟩
    · show measuredAt pot s = _
      cases calibration : s.steer.calibration <;> simp only [measuredAt, calibration]
    · cases loop : s.steer.loop with
      | false => rfl
      | true => exact ⟨rfl, rfl⟩
  case pos =>
    obtain ⟨t, run, changes⟩ := execActuatorTick_runs (pot := pot) (isb := isb) corner runs
    have pins : t.pins = (sampled pot isb s).pins := by rw [changes]; rfl
    have steer : t.steer = (ticked isb (sampled pot isb s)).steer := by rw [changes]
    have bridge : t.bridgeB = (ticked isb (sampled pot isb s)).bridgeB := by rw [changes]
    have faults : t.monitor.faults = (ticked isb (sampled pot isb s)).monitor.faults := by rw [changes]
    refine ⟨t, run, (if_neg (not_not.2 corner)).mpr ?_⟩
    dsimp only
    rw [pins, steer, bridge, faults]
    refine ⟨rfl, rfl, rfl, ?_, rfl, rfl,
      (if_neg (not_not.2 runs)).mpr ⟨rfl, rfl, rfl, rfl, rfl, rfl, rfl, changes⟩⟩
    show measuredAt pot s = _
    cases calibration : s.steer.calibration <;> simp only [measuredAt, calibration]

end Sys2Proof.Steering
end

section
/-! SUPPORT. What the invariant of the wheel figures reads (R128, R147): the image in force, the position, the figures and the
node state. For each shared operation and each node-state entry, what it leaves of them, said once as an equation. -/

namespace Sys2Proof.WheelDrive

open Sys2Proof Sys2Proof.Machine Sys2Proof.Safety

set_option Elab.async false

variable {s t : State}

/-! ## The view -/

/-- What the invariant of the wheel figures reads. -/
structure WheelView where
  image : Option ImageInForce
  position : Option Position
  figures : Option WheelFigures
  state : NodeState

def viewOf (s : State) : WheelView :=
  { image := s.node.image, position := s.node.position, figures := s.drive.figures, state := s.node.state }

/-- The view once another node state is entered. -/
def WheelView.into (v : WheelView) (st : NodeState) : WheelView := { v with state := st }

@[simp] theorem WheelView.into_into (v : WheelView) (st st' : NodeState) : (v.into st).into st' = v.into st' := rfl

@[simp] theorem WheelView.into_state (v : WheelView) (st : NodeState) : (v.into st).state = st := rfl

/-! ## Updates -/

@[simp] theorem viewOf_setNow (x : Nat) : viewOf (s.setNow x) = viewOf s := rfl
@[simp] theorem viewOf_setPins (x : Pins) : viewOf (s.setPins x) = viewOf s := rfl
@[simp] theorem viewOf_setBus (x : Bus) : viewOf (s.setBus x) = viewOf s := rfl
@[simp] theorem viewOf_setPeers (x : Peers) : viewOf (s.setPeers x) = viewOf s := rfl
@[simp] theorem viewOf_setIntake (x : Intake) : viewOf (s.setIntake x) = viewOf s := rfl
@[simp] theorem viewOf_setPower (x : Power) : viewOf (s.setPower x) = viewOf s := rfl
@[simp] theorem viewOf_setBridgeA (x : Bridge) : viewOf (s.setBridgeA x) = viewOf s := rfl
@[simp] theorem viewOf_setBridgeB (x : Bridge) : viewOf (s.setBridgeB x) = viewOf s := rfl
@[simp] theorem viewOf_setSteer (x : Steer) : viewOf (s.setSteer x) = viewOf s := rfl
@[simp] theorem viewOf_setWinch (x : Winch) : viewOf (s.setWinch x) = viewOf s := rfl
@[simp] theorem viewOf_setLights (x : Lights) : viewOf (s.setLights x) = viewOf s := rfl
@[simp] theorem viewOf_setMonitor (x : Monitor) : viewOf (s.setMonitor x) = viewOf s := rfl
@[simp] theorem viewOf_setPending (x : List Instr) : viewOf (s.setPending x) = viewOf s := rfl

@[simp] theorem viewOf_setDrive (x : Drive) (figures : x.figures = s.drive.figures) : viewOf (s.setDrive x) = viewOf s := by
  simp [viewOf, figures]

@[simp] theorem viewOf_setNode (x : Node) (image : x.image = s.node.image) (position : x.position = s.node.position)
    (state : x.state = s.node.state) : viewOf (s.setNode x) = viewOf s := by
  simp [viewOf, image, position, state]

@[simp] theorem viewOf_ite {c : Prop} [Decidable c] (a b : State) :
    viewOf (if c then a else b) = if c then viewOf a else viewOf b := apply_ite viewOf c a b

theorem viewOf_ite_of {c : Prop} [Decidable c] {a b : State} {v : WheelView} (h : viewOf a = v) (k : viewOf b = v) :
    viewOf (if c then a else b) = v := by
  split
  · exact h
  · exact k

/-! ## Reports, records and the bus port -/

theorem viewOf_of_report (changes : SameButReport s t) : viewOf t = viewOf s := by
  rw [changes]
  rfl

@[simp] theorem viewOf_settle (s : State) : viewOf (settle s) = viewOf s :=
  viewOf_of_report (NodeControl.sameButReport_settle s)

@[simp] theorem viewOf_placeReport (s : State) : viewOf (placeReport s) = viewOf s :=
  viewOf_of_report (NodeControl.sameButReport_placeReport s)

@[simp] theorem viewOf_raiseEvent (e : ReportEvent) (s : State) : viewOf (raiseEvent e s) = viewOf s :=
  viewOf_of_report (Steering.sameButReport_raiseEvent e s)

@[simp] theorem viewOf_addFaultIn (st : NodeState) (kind : FaultKind) (output : FaultOutput) (detail : Int) (s : State) :
    viewOf (addFaultIn st kind output detail s) = viewOf s := viewOf_raiseEvent _ _

@[simp] theorem viewOf_addFault (kind : FaultKind) (output : FaultOutput) (detail : Int) (s : State) :
    viewOf (addFault kind output detail s) = viewOf s := viewOf_addFaultIn ..

@[simp] theorem viewOf_placeFrame (k : TxKind) (payload : List Byte) (s : State) :
    viewOf (placeFrame k payload s) = viewOf s := by
  rw [placeFrame_frame]
  rfl

@[simp] theorem viewOf_placeAnswer (asker code : Nat) (result : AnswerResult) (data : List Byte) (s : State) :
    viewOf (placeAnswer asker code result data s) = viewOf s := viewOf_placeFrame ..

@[simp] theorem viewOf_placeNotice (s : State) : viewOf (placeNotice s) = viewOf s := by
  unfold placeNotice
  split
  · simp
  · rfl

@[simp] theorem viewOf_finishAttempt (s : State) : viewOf (finishAttempt s) = viewOf s := by
  rw [TrailBus.finishAttempt_eq]
  cases lineKind s <;> rfl

@[simp] theorem viewOf_requestBreak (s : State) : viewOf (requestBreak s) = viewOf s := by
  simp [requestBreak]

/-! ## The bridges and the drum -/

theorem viewOf_of_drum (changes : NodeControl.SameButDrum s t) : viewOf t = viewOf s := by
  unfold NodeControl.SameButDrum at changes
  rw [changes]
  rfl

@[simp] theorem viewOf_writeBridgeA (m : BridgeMode) (d : Nat) : viewOf (writeBridgeA m d s) = viewOf s := rfl
@[simp] theorem viewOf_writeBridgeB (m : BridgeMode) (d : Nat) : viewOf (writeBridgeB m d s) = viewOf s := rfl
@[simp] theorem viewOf_forceBridgeA (m : BridgeMode) (d : Nat) : viewOf (forceBridgeA m d s) = viewOf s := rfl
@[simp] theorem viewOf_forceBridgeB (m : BridgeMode) (d : Nat) : viewOf (forceBridgeB m d s) = viewOf s := rfl
@[simp] theorem viewOf_zeroDrive (s : State) : viewOf (zeroDrive s) = viewOf s := rfl
@[simp] theorem viewOf_holdBridgeA (s : State) : viewOf (holdBridgeA s) = viewOf s := rfl
@[simp] theorem viewOf_brakeBridgeA (s : State) : viewOf (brakeBridgeA s) = viewOf s := rfl
@[simp] theorem viewOf_offBridgeB (s : State) : viewOf (offBridgeB s) = viewOf s := rfl
@[simp] theorem viewOf_restBridges (s : State) : viewOf (restBridges s) = viewOf s := rfl
@[simp] theorem viewOf_clearMarks (s : State) : viewOf (clearMarks s) = viewOf s := rfl

@[simp] theorem viewOf_shutBridgeA (s : State) : viewOf (shutBridgeA s) = viewOf s := by
  simp [shutBridgeA]

@[simp] theorem viewOf_placeWinch (s : State) : viewOf (placeWinch s) = viewOf s :=
  viewOf_of_drum (NodeControl.sameButDrum_placeWinch s)

@[simp] theorem viewOf_setDrum (d : DrumState) (s : State) : viewOf (setDrum d s) = viewOf s :=
  viewOf_of_drum (NodeControl.sameButDrum_setDrum d s)

@[simp] theorem viewOf_closeOperation (reason : EndReason) (s : State) : viewOf (closeOperation reason s) = viewOf s :=
  viewOf_of_drum (NodeControl.sameButDrum_closeOperation reason s)

@[simp] theorem viewOf_endOperation (reason : EndReason) (d : DrumState) (s : State) :
    viewOf (endOperation reason d s) = viewOf s := by
  simp [endOperation]

@[simp] theorem viewOf_releaseDrum (reason : EndReason) (s : State) : viewOf (releaseDrum reason s) = viewOf s := by
  simp [releaseDrum]

@[simp] theorem viewOf_goSafe (reason : EndReason) (s : State) : viewOf (goSafe reason s) = viewOf s :=
  (viewOf_of_drum (NodeControl.goSafe_changes reason s)).trans rfl

/-! ## The entries to the node states -/

@[simp] theorem viewOf_moveTo (st : NodeState) (s : State) : viewOf (moveTo st s) = (viewOf s).into st := by
  rw [NodeControl.moveTo_eq]
  rfl

@[simp] theorem viewOf_clearIntake (s : State) : viewOf (clearIntake s) = viewOf s := rfl
@[simp] theorem viewOf_abandonCheck (s : State) : viewOf (abandonCheck s) = viewOf s := rfl
@[simp] theorem viewOf_clearLoss (s : State) : viewOf (clearLoss s) = viewOf s := rfl
@[simp] theorem viewOf_endTripWaitB (s : State) : viewOf (endTripWaitB s) = viewOf s := rfl
@[simp] theorem viewOf_darkenForCutoff (s : State) : viewOf (darkenForCutoff s) = viewOf s := rfl

@[simp] theorem viewOf_startBeat (s : State) : viewOf (startBeat s) = viewOf s := by
  simp [startBeat]

@[simp] theorem viewOf_setFunctions (l : ImageLights) (s : State) : viewOf (setFunctions l s) = viewOf s := by
  rw [NodeControl.setFunctions_eq]
  rfl

@[simp] theorem viewOf_startReportTimer (s : State) : viewOf (startReportTimer s) = viewOf s := by
  simp [startReportTimer]

@[simp] theorem viewOf_enterListen (s : State) : viewOf (enterListen s) = (viewOf s).into .listen := by
  simp [enterListen]

@[simp] theorem viewOf_enterRun (s : State) : viewOf (enterRun s) = (viewOf s).into .run := by
  simp [enterRun]

@[simp] theorem viewOf_enterFailsafe (s : State) : viewOf (enterFailsafe s) = (viewOf s).into .failsafe := by
  simp [enterFailsafe]

@[simp] theorem viewOf_enterCutoff (cause : CutoffCause) (s : State) : viewOf (enterCutoff cause s) =
    if s.node.state = .strap ∨ s.node.state = .cutoff then viewOf s else (viewOf s).into .cutoff := by
  simp [enterCutoff]

@[simp] theorem viewOf_enterConflict (cause : ConflictCause) (strapCode : Nat) (s : State) :
    viewOf (enterConflict cause strapCode s) = (viewOf s).into .conflict := by
  simp [enterConflict]

@[simp] theorem viewOf_enterSafe (s : State) : viewOf (enterSafe s) = (viewOf s).into .safe := by
  simp [enterSafe]

/-! ## The thermal class and the CHECK steps -/

@[simp] theorem viewOf_setSensor (x : Sensor) (v : SensorState) (s : State) : viewOf (setSensor x v s) = viewOf s := by
  cases x <;> rfl

@[simp] theorem viewOf_failSensor (x : Sensor) (reading : Int) (s : State) : viewOf (failSensor x reading s) = viewOf s := by
  simp [failSensor]

@[simp] theorem viewOf_lowerAllowance (s : State) : viewOf (lowerAllowance s) = viewOf s := by
  simp [lowerAllowance]

@[simp] theorem viewOf_thermalEffects (before : ThermalClass) (s : State) : viewOf (thermalEffects before s) = viewOf s := by
  unfold thermalEffects
  dsimp only
  split
  · split <;> simp
  · simp

@[simp] theorem viewOf_checkSensor (x : Sensor) (reading : Int) (s : State) : viewOf (checkSensor x reading s) = viewOf s := by
  simp [checkSensor]

@[simp] theorem viewOf_readSensor (x : Sensor) (reading : Int) (s : State) : viewOf (readSensor x reading s) = viewOf s := by
  simp [readSensor]

@[simp] theorem viewOf_withdrawA (result : CheckResult) (s : State) : viewOf (withdrawA result s) = viewOf s := by
  simp [withdrawA]

@[simp] theorem viewOf_withdrawB (s : State) : viewOf (withdrawB s) = viewOf s := by
  simp [withdrawB]

@[simp] theorem viewOf_withdrawLamp (l : Lamp) (current : Nat) (s : State) : viewOf (withdrawLamp l current s) = viewOf s := by
  simp [withdrawLamp]

@[simp] theorem viewOf_setRecord (f : CheckRecord → CheckRecord) (s : State) : viewOf (setRecord f s) = viewOf s := rfl

@[simp] theorem viewOf_beginStep (x : CheckStep) (s : State) : viewOf (beginStep x s) = viewOf s := by
  cases x <;> rfl

@[simp] theorem viewOf_reachStep (x : CheckStep) (s : State) : viewOf (reachStep x s) = viewOf s := by
  unfold reachStep
  split
  · rfl
  · simp [temperatureStep, commitRatings]
  · rfl

end Sys2Proof.WheelDrive
end

section
/-! SUPPORT. No command but six changes the image, the position or the wheel figures, or enters STRAP; unit by unit, in the
order of `exec`. -/

namespace Sys2Proof.WheelDrive

open Sys2Proof Sys2Proof.Machine Sys2Proof.Safety

set_option Elab.async false

variable {s t u : State}

/-! ## What a command carries over -/

/-- From `s` to `t` the image, the position and the figures stand, and a node state entered is not STRAP. -/
def Carries (s t : State) : Prop := viewOf t = viewOf s ∨ ∃ st, st ≠ .strap ∧ viewOf t = (viewOf s).into st

theorem Carries.same (view : viewOf t = viewOf s) : Carries s t := .inl view

theorem Carries.entry {st : NodeState} (view : viewOf t = (viewOf s).into st) (unstrapped : st ≠ .strap := by decide) :
    Carries s t := .inr ⟨st, unstrapped, view⟩

theorem Carries.trans (h : Carries s t) (k : Carries t u) : Carries s u := by
  rcases k with same | ⟨st, unstrapped, entered⟩
  · unfold Carries
    rwa [same]
  · refine .inr ⟨st, unstrapped, ?_⟩
    rcases h with before | ⟨_, _, before⟩ <;> simp only [entered, before, WheelView.into_into]

theorem Carries.ite {c : Prop} [Decidable c] (h : Carries s t) (k : Carries s u) : Carries s (if c then t else u) := by
  split
  · exact h
  · exact k

/-- What comes before that changes nothing here. -/
theorem Carries.after (k : Carries t u) (view : viewOf t = viewOf s := by simp) : Carries s u := (Carries.same view).trans k

/-- What comes after that changes nothing here. -/
theorem Carries.then (h : Carries s t) (view : viewOf u = viewOf t := by simp) : Carries s u := h.trans (.same view)

/-- A command that goes on carries the figures over. -/
def AnswerCarries (s : State) (a : Answer) : Prop := ∀ t, a = .next t → Carries s t

theorem AnswerCarries.next (h : Carries s t) : AnswerCarries s (.next t) := by
  rintro _ ⟨⟩
  exact h

theorem AnswerCarries.done (h : Carries s t) : AnswerCarries s (done t) := .next h.then

/-- A command that stays in the node state. -/
theorem AnswerCarries.stay (view : viewOf t = viewOf s := by simp) : AnswerCarries s (.next t) := .next (.same view)

theorem AnswerCarries.stayDone (view : viewOf t = viewOf s := by simp) : AnswerCarries s (Machine.done t) := .done (.same view)

theorem AnswerCarries.ite {a b : Answer} {c : Prop} [Decidable c] (h : AnswerCarries s a) (k : AnswerCarries s b) :
    AnswerCarries s (if c then a else b) := by
  split
  · exact h
  · exact k

/-! ## The bus port (spec 01) -/

theorem carries_enterCutoff (cause : CutoffCause) (s : State) : Carries s (enterCutoff cause s) := by
  by_cases stays : s.node.state = .strap ∨ s.node.state = .cutoff
  · exact .same (by simp [stays])
  · exact .entry (st := .cutoff) (by simp [stays])

theorem viewOf_countFailure (how : RxFail) (s : State) : viewOf (countFailure how s) = viewOf s := by
  cases how <;> rfl

theorem answerCarries_receptionFailed (how : RxFail) (s : State) : AnswerCarries s (execReceptionFailed how s) := by
  have counted : viewOf (countUnless (exemptNow how s) (countFailure how) s) = viewOf s := by
    simp [countUnless, viewOf_countFailure]
  exact .ite (.stay (t := setRx _ _) counted) .stay

theorem viewOf_disposeFrame (echo : Bool) (kind : FrameKind) (sender : Nat) (payload : List Byte) (s : State) :
    viewOf (disposeFrame echo kind sender payload s) = viewOf s := by
  simp [disposeFrame, enqueue, countOverrun, countBus]

theorem answerCarries_frameReceived (bytes : List Byte) (s : State) : AnswerCarries s (execFrameReceived bytes s) := by
  unfold execFrameReceived
  dsimp only
  split
  · split
    · exact .stay (by simp [countUnless, countFormat, countBus, setRx])
    · exact .stay (by simp [countUnless, countCrc, countBus, setRx])
    · exact .stay (by simp [viewOf_disposeFrame, setRx])
  · exact .stay

theorem answerCarries_breakRecognised (s : State) : AnswerCarries s (execBreakRecognised s) :=
  .ite (.stay rfl) (.done ((carries_enterCutoff .breakHeard _).after rfl))

theorem answerCarries_attemptStart (s : State) : AnswerCarries s (execAttemptStart s) := by
  unfold execAttemptStart
  refine .ite ?_ .stay
  split
  · exact .stay
  · split
    · exact .stay
    · exact .stay rfl

theorem viewOf_loseAttempt (k : TxKind) (s : State) : viewOf (loseAttempt k s) = viewOf s := by
  simp [loseAttempt, countAnswerDrop, countBus, setSlot, clearAttempt, setTx]

theorem answerCarries_arbitrationLost (s : State) : AnswerCarries s (execArbitrationLost s) := by
  unfold execArbitrationLost
  split
  · exact .stay
  · exact .stay (viewOf_loseAttempt _ s)

theorem answerCarries_lineFault (s : State) : AnswerCarries s (execLineFault s) := by
  unfold execLineFault
  split
  · exact .stay
  · exact .stay (t := markExempt _) (viewOf_loseAttempt _ s)

theorem answerCarries_collision (s : State) : AnswerCarries s (execCollision s) := by
  unfold execCollision
  split
  · exact .stay
  · exact .stay (by simp [markExempt, setRx, countTxDrop, countCollision, countBus, setSlot, clearAttempt, setTx])

/-! ## The light sequencer (spec 09) -/

theorem viewOf_restartCycle (s : State) : viewOf (restartCycle s) = viewOf s := rfl

theorem answerCarries_attemptComplete (s : State) : AnswerCarries s (execAttemptComplete s) := by
  have completed : viewOf (completeAttempt s) = viewOf s := viewOf_finishAttempt s
  unfold execAttemptComplete
  split
  · exact .stay
  · exact .stay (by simp [viewOf_restartCycle, completed])

theorem viewOf_mapChannels (f : Lamp → Channel → Channel) (s : State) : viewOf (mapChannels f s) = viewOf s := rfl

theorem viewOf_wrapCycle (s : State) : viewOf (wrapCycle s) = viewOf s := by
  simp [wrapCycle]

theorem viewOf_beatStep (s : State) : viewOf (beatStep s) = viewOf s := by
  simp [beatStep, stageChannels, resolveChannels, promoteAtWrap, viewOf_mapChannels, viewOf_wrapCycle]

theorem answerCarries_beatTaken (s : State) : AnswerCarries s (execBeatTaken s) := by
  have popped : viewOf (popQueue s) = viewOf s := rfl
  have withdrawn {x : Lights} : viewOf ((withdrawFrame .beat (popQueue s)).setLights x) = viewOf s := rfl
  unfold execBeatTaken
  split
  · exact .stay
  · split
    · exact .stay popped
    · exact .stay ((viewOf_restartCycle _).trans withdrawn)

/-! ## The CHECK sequence (spec 10) -/

theorem carries_advance (steps : List CheckStep) (s : State) : Carries s (advance steps s) := by
  induction steps generalizing s with
  | nil => exact .entry (viewOf_enterSafe s)
  | cons x rest ih =>
    have on : Carries s (advance rest (reachStep x s)) := (ih _).after
    unfold advance
    exact .ite on (.ite on (.ite (.same (by simp)) (.same (by simp))))

theorem carries_completeStep (x : CheckStep) (s : State) : Carries s (completeStep x s) := (carries_advance _ _).after

theorem carries_enterCheck (s : State) : Carries s (enterCheck s) :=
  (Carries.entry (st := .check) (by simp)).trans (carries_advance allSteps _)

/-! ## The node controller (spec 02, 03) -/

theorem answerCarries_strapReadFail (last : Option Position) (s : State) : AnswerCarries s (execStrapReadFail last s) :=
  .ite (.next (.entry (st := .conflict) (by simp))) .stay

theorem answerCarries_silenceTimerExpiry (s : State) : AnswerCarries s (execSilenceTimerExpiry s) := by
  have reported : viewOf (placeReport (s.setNode { s.node with silenceTimer := none })) = viewOf s := by simp
  exact .ite (.done (.ite ((carries_enterCheck _).after reported) (.same reported))) .stay

theorem answerCarries_ownStationFrame (s : State) : AnswerCarries s (execOwnStationFrame s) := by
  have popped : viewOf (popQueue s) = viewOf s := rfl
  unfold execOwnStationFrame
  split
  · exact .stay
  next f _ =>
    exact .next (.ite (.entry (st := .conflict) (by simp [popped])) (.same popped))

/-! ## The peer monitor and the queries (spec 03) -/

theorem answerCarries_report (s : State) : AnswerCarries s (execReport s) := by
  unfold execReport
  split
  · exact .stay
  · unfold takeReport
    split <;> exact .stay rfl

theorem answerCarries_peerLost (station : Nat) (s : State) : AnswerCarries s (execPeerLost station s) := by
  unfold execPeerLost
  split <;> exact .stay rfl

theorem answerCarries_winch (s : State) : AnswerCarries s (execWinch s) := by
  unfold execWinch
  split
  · exact .stay
  · unfold takeWinch
    split
    · exact .stay rfl
    · split <;> exact .stay rfl

theorem answerCarries_onQuery {act : QueryRead → State → State} (code : QueryCode) (s : State)
    (acts : ∀ q t, Carries t (act q t)) : AnswerCarries s (onQuery code act s) := by
  have popped : viewOf (popQueue s) = viewOf s := rfl
  unfold onQuery
  split
  · exact .stay
  · exact .ite (.done (.ite ((acts _ _).after popped) (.same popped))) .stay

theorem answerCarries_answerOk {code : QueryCode} {data : State → List Byte} (s : State) :
    AnswerCarries s (onQuery code (answerOk data) s) := answerCarries_onQuery code s fun _ _ => .same (by simp [answerOk])

theorem carries_answerIndexed {α : Type} (top : Nat) (l : List α) (data : α → List Byte) (q : QueryRead) (s : State) :
    Carries s (answerIndexed top l data q s) := by
  unfold answerIndexed
  refine .ite (.same (by simp)) ?_
  split <;> exact .same (by simp)

theorem answerCarries_winchLog (s : State) : AnswerCarries s (execWinchLog s) :=
  answerCarries_onQuery _ s fun _ _ => .ite (carries_answerIndexed ..) (.same (by simp))

theorem answerCarries_recheck (s : State) : AnswerCarries s (execRecheck s) :=
  answerCarries_onQuery _ s fun _ _ => .ite ((carries_enterCheck _).after) (.same (by simp))

theorem answerCarries_queryUnknownCode (s : State) : AnswerCarries s (execQueryUnknownCode s) := by
  have popped : viewOf (popQueue s) = viewOf s := rfl
  unfold execQueryUnknownCode
  split
  · exact .stay
  · split
    · exact .stay popped
    · exact .ite .stay (.stay (by simp [popped]))

/-! ## The command intake (spec 04) -/

theorem viewOf_offerCommand (s : State) : viewOf (offerCommand s) = viewOf s := rfl

theorem carries_judgeCommand (s : State) : Carries s (judgeCommand s) := by
  have ran : Carries s (offerCommand (enterRun s)) := .entry ((viewOf_offerCommand _).trans (viewOf_enterRun s))
  have offered : Carries s (offerCommand s) := .same rfl
  unfold judgeCommand
  dsimp only
  split
  · exact .ite (.ite offered ran) (.same rfl)
  · exact offered
  · exact .ite ran (.same rfl)
  all_goals exact .same rfl

theorem answerCarries_command (s : State) : AnswerCarries s (execCommand s) := by
  have popped : viewOf (popQueue s) = viewOf s := rfl
  unfold execCommand
  split
  · exact .stay
  · refine .done (Carries.after ?_ popped)
    unfold dealCommand
    refine .ite (.same rfl) ?_
    split
    · exact .same rfl
    · exact .ite (.same rfl) ((carries_judgeCommand _).after rfl)

theorem answerCarries_linkExpiry (s : State) : AnswerCarries s (execLinkExpiry s) := by
  unfold execLinkExpiry
  refine .ite ?_ .stay
  split
  · exact .stay
  · exact .done (.entry (st := .failsafe) (by simp))
  all_goals exact .stay

/-! ## The power supervisor (spec 05) -/

theorem carries_cutoffOn (cause : Option CutoffCause) (s : State) : Carries s (cutoffOn cause s) := by
  cases cause with
  | none => exact .same rfl
  | some c => exact carries_enterCutoff c s

theorem carries_stageJudge (s : State) : Carries s (stageJudge s) :=
  ((carries_cutoffOn _ _).after (by simp)).trans (carries_cutoffOn _ _)

theorem answerCarries_budgetTick (r : BudgetReadings) (s : State) : AnswerCarries s (execBudgetTick r s) := by
  have read : viewOf (stagePack (stageReadings r (presentReadings r s))) = viewOf s := rfl
  have shared {x : Power} (t : State) : viewOf (clearMarks (t.setPower x)) = viewOf t := rfl
  exact .ite (.done (((carries_stageJudge _).after read).then (shared _))) (.stay rfl)

theorem answerCarries_peerCutoffTest (s : State) : AnswerCarries s (execPeerCutoffTest s) :=
  .ite .stay (.done (.ite (carries_enterCutoff _ _).after (.same (by simp))))

/-! ## The steering unit (spec 06) -/

theorem viewOf_declareStall (err : Int) (s : State) : viewOf (declareStall err s) = viewOf s := by
  simp [declareStall]

theorem answerCarries_actuatorTick (pot isb : Nat) (s : State) : AnswerCarries s (execActuatorTick pot isb s) := by
  have read : viewOf (readActuator pot isb s) = viewOf s := rfl
  have ticked (t : State) : viewOf (loopTick isb (startLoop t)) = viewOf t := by
    simp [loopTick, startLoop, viewOf_declareStall]
  exact .ite (.ite (.stayDone ((ticked _).trans read)) (.stay (by simp [read]))) (.stay rfl)

theorem answerCarries_steerStall (s : State) : AnswerCarries s (execSteerStall s) :=
  .ite (.stayDone (by simp [viewOf_declareStall])) .stay

theorem answerCarries_steerSensorLost (pot : Nat) (s : State) : AnswerCarries s (execSteerSensorLost pot s) :=
  .ite .stayDone .stay

/-! ## The drive unit (spec 07) -/

theorem viewOf_loseEncoder (s : State) : viewOf (loseEncoder s) = viewOf s := by
  simp [loseEncoder]

theorem viewOf_watchLoss (s : State) : viewOf (watchLoss s) = viewOf s := by
  simp [watchLoss, viewOf_loseEncoder]

theorem viewOf_writeIf (set : Option Setting) (s : State) : viewOf (writeIf set s) = viewOf s := by
  cases set <;> rfl

theorem viewOf_setDriveFlags (s : State) : viewOf (setDriveFlags s) = viewOf s :=
  viewOf_ite_of rfl ((viewOf_raiseEvent _ _).trans rfl)

/-- The figures stand in no row of Table 7-2. -/
theorem viewOf_cornerTick (isa : Nat) (s : State) : viewOf (cornerTick isa s) = viewOf s := by
  refine (viewOf_setDriveFlags _).trans ((viewOf_writeIf _ _).trans ?_)
  exact (viewOf_watchLoss (s.setDrive { s.drive with
    measured := measuredSpeed s.drive, speed := wheelSpeed s (measuredSpeed s.drive) })).trans rfl

theorem answerCarries_driveTick (isa : Nat) (s : State) : AnswerCarries s (execDriveTick isa s) := by
  unfold execDriveTick
  dsimp only
  split
  · exact .stayDone ((viewOf_cornerTick isa _).trans rfl)
  all_goals exact .stay rfl

theorem viewOf_captureEdge (dir : Direction) (interval : Nat) (s : State) :
    viewOf (s.setDrive (captureEdge dir interval s.drive)) = viewOf s := by
  refine viewOf_setDrive _ ?_
  unfold captureEdge
  exact (apply_ite Drive.figures _ _ _).trans (ite_self _)

theorem viewOf_countRecovery (dir : Direction) (s : State) : viewOf (countRecovery dir s) = viewOf s := by
  simp [countRecovery, recoverEncoder]

theorem viewOf_drumEdge (dir : Direction) (s : State) : viewOf (drumEdge dir s) = viewOf s :=
  viewOf_ite_of (by simp) (by simp)

theorem answerCarries_encoderEdge (dir : Direction) (interval : Nat) (s : State) :
    AnswerCarries s (execEncoderEdge dir interval s) := by
  have captured := viewOf_captureEdge dir interval s
  unfold execEncoderEdge
  dsimp only
  split
  · exact .stay ((viewOf_countRecovery dir _).trans captured)
  · exact .stayDone ((viewOf_drumEdge dir _).trans captured)
  · exact .stay
  · exact .stay

theorem viewOf_tripA (s : State) : viewOf (tripA s) = viewOf s := by
  simp [tripA, withdrawByTrips]

/-! ## The winch unit (spec 08) -/

theorem viewOf_drumLoop (dir : WinchDir) (isa : Nat) (s : State) : viewOf (drumLoop dir isa s) = viewOf s := by
  simp [drumLoop]

theorem viewOf_setDrumTarget (dir : WinchDir) (s : State) : viewOf (setDrumTarget dir s) = viewOf s := rfl

theorem viewOf_watchDrum (isa : Nat) (s : State) : viewOf (watchDrum isa s) = viewOf s := by
  unfold watchDrum
  split
  · split <;> simp
  · rfl

theorem viewOf_engageEnd (s : State) : viewOf (engageEnd s) = viewOf s := by
  unfold engageEnd
  split
  · simp
  · simp [viewOf_setDrumTarget]

theorem viewOf_driveSolenoid (isb : Nat) (s : State) : viewOf (driveSolenoid isb s) = viewOf s := rfl

theorem viewOf_fromBraked (isb : Nat) (s : State) : viewOf (fromBraked isb s) = viewOf s := by
  unfold fromBraked
  dsimp only
  split
  · simp [startFreespool, viewOf_driveSolenoid]
  · simp [startEngaging]

theorem viewOf_fromRunning (dir : WinchDir) (isa : Nat) (s : State) : viewOf (fromRunning dir isa s) = viewOf s := by
  simp [fromRunning, viewOf_watchDrum, viewOf_drumLoop, viewOf_setDrumTarget]

theorem viewOf_fromEngaging (isa : Nat) (s : State) : viewOf (fromEngaging isa s) = viewOf s := by
  unfold fromEngaging
  split
  · simp
  · split
    · rfl
    · simp [runEntered, viewOf_watchDrum, viewOf_drumLoop, viewOf_engageEnd]

theorem viewOf_restDrum (s : State) : viewOf (restDrum s) = viewOf s := by
  simp [restDrum]

theorem viewOf_drumTick (isa isb : Nat) (s : State) : viewOf (drumTick isa isb s) = viewOf s := by
  have rested := viewOf_restDrum s
  unfold drumTick
  split
  · exact (viewOf_fromBraked isb _).trans rested
  · exact (viewOf_fromEngaging isa _).trans rested
  · exact viewOf_fromRunning .haul isa s
  · exact viewOf_fromRunning .payOut isa s
  · simp [fromBlocked, rested]
  · simp [fromBlocked, rested]
  · simp [fromBlocked, rested]
  · simp [fromFreespool, viewOf_driveSolenoid, rested]
  · exact rested

theorem answerCarries_controlTick (isa isb : Nat) (s : State) : AnswerCarries s (execControlTick isa isb s) := by
  have read : viewOf (readControl isa isb s) = viewOf s := rfl
  exact .ite (.ite (.stayDone ((viewOf_drumTick isa isb _).trans read)) (.stay ((viewOf_restDrum _).trans read))) .stay

theorem answerCarries_limitAcceptance (sw0 sw1 : Option SwitchLevel) (s : State) :
    AnswerCarries s (execLimitAcceptance sw0 sw1 s) := .ite (.stayDone (by simp [acceptLimits])) .stay

/-! ## The output monitor (spec 10) -/

theorem carries_failA (result : CheckResult) (x : CheckStep) (s : State) : Carries s (failA result x s) :=
  (carries_completeStep x _).after

theorem carries_failB (result : CheckResult) (x : CheckStep) (s : State) : Carries s (failB result x s) :=
  (carries_completeStep x _).after (by simp [restorePrior])

theorem carries_judgePair (left right : Nat) (s : State) : Carries s (judgePair left right s) :=
  .ite (.same (by simp)) (carries_failB ..)

theorem answerCarries_supplyTestRetry (vpack : Int) (s : State) : AnswerCarries s (execSupplyTestRetry vpack s) :=
  .ite (.ite (.done (carries_completeStep ..).after) .stay) .stay

theorem answerCarries_pullTestEnd (out vpack : Int) (s : State) : AnswerCarries s (execPullTestEnd out vpack s) := by
  unfold execPullTestEnd
  split
  · exact .done (.ite (carries_failA ..).after (carries_completeStep ..).after)
  · exact .done (.ite (carries_failA ..).after (carries_completeStep ..).after)
  · exact .done (.ite (carries_failB ..).after (carries_completeStep ..).after)
  · exact .done (.ite (carries_failB ..).after (carries_completeStep ..).after)
  · exact .stay

theorem answerCarries_loadPulseEnd (current : Nat) (s : State) : AnswerCarries s (execLoadPulseEnd current s) := by
  unfold execLoadPulseEnd
  dsimp only
  split
  · exact .ite .stay (.done (.ite ((carries_completeStep ..).after) (carries_failA ..)))
  · exact .ite .stay (.done (.ite ((carries_completeStep ..).after) (carries_failB ..)))
  · exact .stay

theorem answerCarries_loadPulseTrip (current : Nat) (s : State) : AnswerCarries s (execLoadPulseTrip current s) := by
  unfold execLoadPulseTrip
  split
  · exact .ite (.done (carries_failA ..)) .stay
  · exact .ite (.done (carries_failB ..)) .stay
  · exact .stay

theorem answerCarries_lampPresenceTestEnd (pin vpack : Int) (s : State) :
    AnswerCarries s (execLampPresenceTestEnd pin vpack s) := by
  unfold execLampPresenceTestEnd
  split
  · exact .ite .stay (.done ((carries_completeStep ..).after (by simp [setLampResult])))
  · exact .stay

theorem answerCarries_lampRatingEnd (mean : Nat) (s : State) : AnswerCarries s (execLampRatingEnd mean s) := by
  unfold execLampRatingEnd
  split
  · exact .done ((carries_completeStep ..).after (by simp [setLampResult]))
  · exact .stay

theorem answerCarries_lampRatingShort (current : Nat) (s : State) : AnswerCarries s (execLampRatingShort current s) := by
  unfold execLampRatingShort
  split
  · exact .ite (.done ((carries_completeStep ..).after (by simp [setLampResult]))) .stay
  · exact .stay

theorem answerCarries_sweepStopFound (pot : Nat) (s : State) : AnswerCarries s (execSweepStopFound pot s) := by
  unfold execSweepStopFound
  dsimp only
  split
  · exact .stay
  · exact .done (carries_judgePair ..).after
  · exact .stay

theorem answerCarries_sweepPhaseTimeout (s : State) : AnswerCarries s (execSweepPhaseTimeout s) := by
  unfold execSweepPhaseTimeout
  split
  · exact .done (carries_failB ..)
  · exact .done (carries_failB ..)
  · exact .stay

theorem answerCarries_sweepFault (s : State) : AnswerCarries s (execSweepFault s) := by
  unfold execSweepFault
  split
  · exact .done (carries_failB ..)
  · exact .stay

theorem answerCarries_sweepReturnEnd (s : State) : AnswerCarries s (execSweepReturnEnd s) := by
  unfold execSweepReturnEnd
  split
  · exact .done (carries_completeStep ..).after
  · exact .stay

theorem viewOf_tripB (s : State) : viewOf (tripB s) = viewOf s := by
  have freed {x : Monitor} : viewOf (if ((offBridgeB s).setMonitor x).winch.drum = .freespool then
      setDrum .braked ((offBridgeB s).setMonitor x) else (offBridgeB s).setMonitor x) = viewOf s :=
    viewOf_ite_of (by simp) (by simp)
  exact viewOf_ite_of (by rw [viewOf_addFault, viewOf_withdrawB]; exact freed) ((viewOf_addFault ..).trans freed)

/-- A step that a change of the thermal class releases may be the last (R196). -/
theorem carries_thermalChange (before : ThermalClass) (s : State) : Carries s (thermalChange before s) := by
  unfold thermalChange checkThermal
  split
  · exact .same (by simp)
  · exact .ite (.same (by simp)) (.ite (.ite (carries_completeStep ..).after (.same (by simp))) (.same (by simp)))

theorem answerCarries_temperatureReading (ts1 die : Int) (s : State) : AnswerCarries s (execTemperatureReading ts1 die s) :=
  .done (carries_thermalChange ..).after

theorem answerCarries_thermalSensorFault (x : Sensor) (reading : Int) (s : State) :
    AnswerCarries s (execThermalSensorFault x reading s) := .ite (.done (carries_thermalChange ..).after) .stay

end Sys2Proof.WheelDrive
end

section
/-! SUPPORT and THEOREM. The wheel figures follow the image in force (O47): the six commands that change the image or the
position, every step, and the ranges of the figures (R128). -/

namespace Sys2Proof.WheelDrive

open Sys2Proof Sys2Proof.Machine Sys2Proof.Safety

set_option Elab.async false

variable {s t : State} {img : ImageInForce}

/-! ## The invariant by its view -/

/-- The figures are those of the image in force on a corner, and a node in STRAP has neither image nor position. -/
def WheelView.Formed (v : WheelView) : Prop :=
  v.figures = (if v.position.any isCorner = true then v.image.map (fun i => wheelFigures i.fields.drive) else none) ∧
    (v.state = .strap → v.position = none ∧ v.image = none)

theorem figuresInv_iff : FiguresInv s ↔ (viewOf s).Formed := by
  have corner : (if roleOf s = .corner then s.node.image.map (fun i => wheelFigures i.fields.drive) else none) =
      if s.node.position.any isCorner = true then s.node.image.map (fun i => wheelFigures i.fields.drive) else none :=
    if_congr NodeControl.roleOf_corner_iff rfl rfl
  exact ⟨fun h => ⟨h.figures.trans corner, h.strapBare⟩, fun h => ⟨h.1.trans corner.symm, h.2⟩⟩

theorem Carries.figuresInv (h : Carries s t) (inv : FiguresInv s) : FiguresInv t := by
  obtain ⟨figures, strapBare⟩ := figuresInv_iff.1 inv
  rcases h with same | ⟨st, unstrapped, entered⟩ <;> rw [figuresInv_iff]
  · rw [same]
    exact ⟨figures, strapBare⟩
  · rw [entered]
    exact ⟨figures, fun strap => absurd strap unstrapped⟩

theorem figuresInv_of_view (inv : FiguresInv s) (view : viewOf t = viewOf s := by rfl) : FiguresInv t :=
  (Carries.same view).figuresInv inv

/-- Without an image there are no figures (R128). -/
theorem figures_of_no_image (inv : FiguresInv s) (image : s.node.image = none) : s.drive.figures = none := by
  rw [inv.figures, image]
  exact ite_self _

/-- A state without an image and without figures meets the invariant outside STRAP. -/
theorem figuresInv_of_bare {position : Option Position} {st : NodeState}
    (view : viewOf t = { image := none, position, figures := none, state := st }) (unstrapped : st ≠ .strap) : FiguresInv t := by
  rw [figuresInv_iff, view]
  exact ⟨(ite_self _).symm, fun strap => absurd strap unstrapped⟩

/-! ## An image comes into force (R128) -/

/-- An image does not change whether the node is a corner (R24). -/
theorem corner_applyImage : roleOf (applyImage img s) = .corner ↔ roleOf s = .corner := by
  have position : (applyImage img s).node.position = s.node.position := by
    rw [NodeControl.sameButImage_applyImage img s]
  rw [NodeControl.roleOf_corner_iff, NodeControl.roleOf_corner_iff, position]

theorem figures_of_corner (corner : roleOf (applyImage img s) = .corner) :
    (applyImage img s).drive.figures = some (wheelFigures img.fields.drive) := by
  rw [(NodeControl.forced_applyImage img s).figures]
  exact if_pos (corner_applyImage.1 corner)

theorem figures_of_other (other : roleOf (applyImage img s) ≠ .corner) : (applyImage img s).drive.figures = none := by
  rw [(NodeControl.forced_applyImage img s).figures]
  exact if_neg fun corner => other (corner_applyImage.2 corner)

theorem figuresInv_applyImage (unstrapped : s.node.state ≠ .strap) : FiguresInv (applyImage img s) := by
  have changes := NodeControl.sameButImage_applyImage img s
  have state : (applyImage img s).node.state = s.node.state := by
    rw [changes]
  refine ⟨?_, fun strap => absurd (state.symm.trans strap) unstrapped⟩
  rw [(NodeControl.forced_applyImage img s).image]
  split
  next corner => exact figures_of_corner corner
  next other => exact figures_of_other other

/-! ## The commands that change the image or the position -/

/-- The invariant holds of every next state that a command answers with. -/
def AnswerFigured (a : Answer) : Prop := ∀ t, a = .next t → FiguresInv t

theorem AnswerFigured.next (h : FiguresInv t) : AnswerFigured (.next t) := by
  rintro _ ⟨⟩
  exact h

theorem AnswerFigured.done (h : FiguresInv t) : AnswerFigured (done t) := .next (figuresInv_of_view h (viewOf_settle t))

theorem AnswerFigured.ite {a b : Answer} {c : Prop} [Decidable c] (h : AnswerFigured a) (k : AnswerFigured b) :
    AnswerFigured (if c then a else b) := by
  split
  · exact h
  · exact k

theorem AnswerFigured.of_carries {a : Answer} (inv : FiguresInv s) (h : AnswerCarries s a) : AnswerFigured a :=
  fun t next => (h t next).figuresInv inv

theorem figuresInv_poweredOn (s : State) : FiguresInv (NodeControl.poweredOn s) := ⟨rfl, fun _ => ⟨rfl, rfl⟩⟩

/-- A node in STRAP has no image, so it has no figures at the position that it takes. -/
theorem answerFigured_strapReadSuccess (p : Position) (inv : FiguresInv s) : AnswerFigured (execStrapReadSuccess p s) := by
  unfold execStrapReadSuccess
  split
  next strap =>
    obtain ⟨_, image⟩ := inv.strapBare strap
    have placed : (viewOf (s.setNode { s.node with
        position := some p, strap := { failed := 0, band := none, count := 0, last := some p } })).into .listen =
        { image := none, position := some p, figures := none, state := .listen } := by
      simp [viewOf, WheelView.into, image, figures_of_no_image inv image]
    exact .next (figuresInv_of_bare ((viewOf_enterListen _).trans placed) (by decide))
  next => exact .next inv

theorem answerFigured_defaultTimerExpiry (inv : FiguresInv s) : AnswerFigured (execDefaultTimerExpiry s) := by
  unfold execDefaultTimerExpiry
  split
  next listen =>
    have unstrapped : s.node.state ≠ .strap := by
      rw [listen.1]
      decide
    have checked : Carries (applyImage defaultImage s) (enterCheck ((applyImage defaultImage s).setNode
        { (applyImage defaultImage s).node with defaultConfig := true })) := (carries_enterCheck _).after
    exact .ite (.next (figuresInv_of_view inv (by simp)))
      (.done (checked.figuresInv (figuresInv_applyImage unstrapped)))
  next => exact .next inv

/-- The staging image comes into force in LISTEN. -/
theorem figuresInv_completeImage (inv : FiguresInv s) (unstrapped : s.node.state ≠ .strap) :
    FiguresInv (completeImage s) := by
  have applied : FiguresInv (applyImage (receivedImage (stagedBytes s.node.staging)) s) := figuresInv_applyImage unstrapped
  unfold completeImage
  dsimp only
  split
  · exact (Carries.ite (carries_enterCheck _) (.same rfl)).figuresInv applied
  · exact figuresInv_of_view inv

theorem figuresInv_takeConfig (payload : List Byte) (inv : FiguresInv s) : FiguresInv (takeConfig payload s) := by
  have ignored : FiguresInv (countCfgIgnored s) := figuresInv_of_view inv
  unfold takeConfig
  split
  next listen =>
    have unstrapped : s.node.state ≠ .strap := by
      rw [listen.1]
      decide
    cases payload with
    | nil => exact ignored
    | cons k bytes =>
      have staged {l : List (Nat × List Byte)} : FiguresInv (s.setNode { s.node with staging := l }) :=
        figuresInv_of_view inv
      dsimp only
      split
      · unfold stageSegment
        dsimp only
        split
        · exact figuresInv_completeImage staged unstrapped
        · exact staged
      · exact ignored
  next => exact ignored

theorem answerFigured_config (inv : FiguresInv s) : AnswerFigured (execConfig s) := by
  unfold execConfig
  split
  · exact .next inv
  · exact .done (figuresInv_takeConfig _ (figuresInv_of_view inv))

/-- RESTART takes the image out of force, and the figures with it (Table 2-7). -/
theorem viewOf_restartBlocks (s : State) : viewOf (restartBlocks s) =
    { image := none, position := s.node.position, figures := none, state := s.node.state } := by
  rw [NodeControl.restartBlocks_eq]
  rfl

theorem answerFigured_assign (inv : FiguresInv s) : AnswerFigured (execAssign s) := by
  have popped : FiguresInv (popQueue s) := figuresInv_of_view inv
  have refused : FiguresInv (refuseAssign (popQueue s)) := figuresInv_of_view popped (by simp [refuseAssign])
  have accepted (p : Position) : FiguresInv (acceptAssign p (popQueue s)) := by
    unfold acceptAssign
    exact figuresInv_of_bare ((viewOf_enterListen _).trans (congrArg (·.into .listen) (viewOf_restartBlocks _))) (by decide)
  unfold execAssign
  split
  · exact .next inv
  · split
    · exact .next popped
    · unfold takeAssign
      split
      · split
        · exact .next refused
        · split
          · exact .next refused
          · exact .next (accepted _)
      · exact .next (figuresInv_of_view popped)

theorem figuresInv_restartNode (q : QueryRead) (s : State) : FiguresInv (restartNode q s) := by
  unfold restartNode
  exact figuresInv_of_bare ((viewOf_enterListen _).trans (congrArg (·.into .listen)
    ((viewOf_placeAnswer ..).trans (viewOf_restartBlocks _)))) (by decide)

theorem answerFigured_restart (inv : FiguresInv s) : AnswerFigured (execRestart s) := by
  have popped : FiguresInv (popQueue s) := figuresInv_of_view inv
  unfold execRestart onQuery
  split
  · exact .next inv
  · split
    · refine .done ?_
      split
      · dsimp only
        split
        · exact figuresInv_of_view popped (viewOf_placeAnswer ..)
        · exact figuresInv_restartNode _ _
      · exact popped
    · exact .next inv

/-! ## Every command and every step -/

theorem answerFigured_exec (c : Instr) (inv : FiguresInv s) : AnswerFigured (exec c s) := by
  cases c with
  | powerOnReset => exact .next (figuresInv_poweredOn s)
  | strapReadSuccess p => exact answerFigured_strapReadSuccess p inv
  | defaultTimerExpiry => exact answerFigured_defaultTimerExpiry inv
  | config => exact answerFigured_config inv
  | assign => exact answerFigured_assign inv
  | restart => exact answerFigured_restart inv
  | busIdle => exact .of_carries inv (.stay rfl)
  | frameReceived bytes => exact .of_carries inv (answerCarries_frameReceived bytes s)
  | receptionFailed how => exact .of_carries inv (answerCarries_receptionFailed how s)
  | breakRecognised => exact .of_carries inv (answerCarries_breakRecognised s)
  | attemptStart => exact .of_carries inv (answerCarries_attemptStart s)
  | arbitrationLost => exact .of_carries inv (answerCarries_arbitrationLost s)
  | lineFault => exact .of_carries inv (answerCarries_lineFault s)
  | collision => exact .of_carries inv (answerCarries_collision s)
  | backoffExpiry kind => exact .of_carries inv (.stay rfl)
  | attemptComplete => exact .of_carries inv (answerCarries_attemptComplete s)
  | breakEnd => exact .of_carries inv (.stay rfl)
  | strapReadFail last => exact .of_carries inv (answerCarries_strapReadFail last s)
  | silenceTimerExpiry => exact .of_carries inv (answerCarries_silenceTimerExpiry s)
  | ownStationFrame => exact .of_carries inv (answerCarries_ownStationFrame s)
  | conflictNoticeTimer => exact .of_carries inv .stay
  | uptimeTick => exact .of_carries inv .stay
  | reportTimerExpiry => exact .of_carries inv .stay
  | heldEventSpacingExpiry => exact .of_carries inv .stay
  | report => exact .of_carries inv (answerCarries_report s)
  | peerLost station => exact .of_carries inv (answerCarries_peerLost station s)
  | winch => exact .of_carries inv (answerCarries_winch s)
  | winchLinkExpiry => exact .of_carries inv .stay
  | checkRecord => exact .of_carries inv (answerCarries_answerOk s)
  | fault => exact .of_carries inv (answerCarries_onQuery _ s fun _ _ => carries_answerIndexed ..)
  | winchLog => exact .of_carries inv (answerCarries_winchLog s)
  | counters => exact .of_carries inv (answerCarries_answerOk s)
  | image => exact .of_carries inv (answerCarries_answerOk s)
  | budget => exact .of_carries inv (answerCarries_answerOk s)
  | recheck => exact .of_carries inv (answerCarries_recheck s)
  | queryUnknownCode => exact .of_carries inv (answerCarries_queryUnknownCode s)
  | command => exact .of_carries inv (answerCarries_command s)
  | linkExpiry => exact .of_carries inv (answerCarries_linkExpiry s)
  | failsafeStage2 => exact .of_carries inv (.ite .stay .stay)
  | budgetTick r => exact .of_carries inv (answerCarries_budgetTick r s)
  | peerCutoffTest => exact .of_carries inv (answerCarries_peerCutoffTest s)
  | actuatorTick pot isb => exact .of_carries inv (answerCarries_actuatorTick pot isb s)
  | steerStall => exact .of_carries inv (answerCarries_steerStall s)
  | stallLimitEnd => exact .of_carries inv .stay
  | steerSensorLost pot => exact .of_carries inv (answerCarries_steerSensorLost pot s)
  | driveTick isa => exact .of_carries inv (answerCarries_driveTick isa s)
  | encoderEdge dir interval => exact .of_carries inv (answerCarries_encoderEdge dir interval s)
  | encoderEdgeTimeout => exact .of_carries inv .stay
  | encoderLost => exact .of_carries inv (.ite (.stayDone (viewOf_loseEncoder s)) .stay)
  | encoderRecovered => exact .of_carries inv (.stay (viewOf_ite_of rfl rfl))
  | overcurrentTrip current => exact .of_carries inv (.ite (.stayDone (viewOf_tripA s)) .stay)
  | tripWaitEnd => exact .of_carries inv .stay
  | controlTick isa isb => exact .of_carries inv (answerCarries_controlTick isa isb s)
  | limitAcceptance sw0 sw1 => exact .of_carries inv (answerCarries_limitAcceptance sw0 sw1 s)
  | engageDelayEnd => exact .of_carries inv (.ite (.stayDone (viewOf_engageEnd s)) .stay)
  | winchStall => exact .of_carries inv (.ite .stayDone .stay)
  | winchTimerExpiry => exact .of_carries inv .stay
  | beatEvent => exact .of_carries inv (.stay (viewOf_ite_of (viewOf_beatStep s) rfl))
  | beatTaken => exact .of_carries inv (answerCarries_beatTaken s)
  | lampShort l current => exact .of_carries inv (.ite .stayDone .stay)
  | supplyTestRetry vpack => exact .of_carries inv (answerCarries_supplyTestRetry vpack s)
  | pullTestEnd out vpack => exact .of_carries inv (answerCarries_pullTestEnd out vpack s)
  | loadPulseEnd current => exact .of_carries inv (answerCarries_loadPulseEnd current s)
  | loadPulseTrip current => exact .of_carries inv (answerCarries_loadPulseTrip current s)
  | lampPresenceTestEnd pin vpack => exact .of_carries inv (answerCarries_lampPresenceTestEnd pin vpack s)
  | lampRatingEnd mean => exact .of_carries inv (answerCarries_lampRatingEnd mean s)
  | lampRatingShort current => exact .of_carries inv (answerCarries_lampRatingShort current s)
  | sweepStopFound pot => exact .of_carries inv (answerCarries_sweepStopFound pot s)
  | sweepPhaseTimeout => exact .of_carries inv (answerCarries_sweepPhaseTimeout s)
  | sweepFault => exact .of_carries inv (answerCarries_sweepFault s)
  | sweepReturnEnd => exact .of_carries inv (answerCarries_sweepReturnEnd s)
  | supplyDip vpack => exact .of_carries inv (.ite (.stay rfl) .stay)
  | bridgeBTrip current => exact .of_carries inv (.ite (.stayDone (viewOf_tripB s)) .stay)
  | bridgeBTripWaitEnd => exact .of_carries inv .stay
  | temperatureReading ts1 die => exact .of_carries inv (answerCarries_temperatureReading ts1 die s)
  | thermalSensorFault x reading => exact .of_carries inv (answerCarries_thermalSensorFault x reading s)
  | frameStart => exact .of_carries inv (.stay rfl)
  | pwmPeriodBoundary => exact .of_carries inv (.stay rfl)

theorem step_keeps_figuresInv (inv : FiguresInv s) (run : step s = .next t) : FiguresInv t := by
  unfold step at run
  split at run
  next =>
    cases run
    exact figuresInv_of_view inv
  next c rest _ =>
    exact answerFigured_exec c (figuresInv_of_view inv) t run

/-! ## The ranges of the figures (R128) -/

theorem circumference_range {d : ImageDrive} (diameter : 40 ≤ d.wheelDiameter ∧ d.wheelDiameter ≤ 250) :
    126 ≤ (wheelFigures d).circumference ∧ (wheelFigures d).circumference ≤ 785 := by
  simp only [wheelFigures]
  omega

/-- Full speed over a circumference: the least image gives 2 cps, the greatest 162540 cps. -/
theorem fullSpeed_range {c distance : Nat} (circumference : 126 ≤ c ∧ c ≤ 785)
    (counts : 1200 ≤ distance ∧ distance ≤ 20480000) : 2 ≤ (distance + c / 2) / c ∧ (distance + c / 2) / c ≤ 162540 := by
  have positive : 0 < c := by omega
  exact ⟨(Nat.le_div_iff_mul_le positive).2 (by omega), Nat.le_of_lt_succ ((Nat.div_lt_iff_lt_mul positive).2 (by omega))⟩

theorem vMaxCps_range {d : ImageDrive} (diameter : 40 ≤ d.wheelDiameter ∧ d.wheelDiameter ≤ 250)
    (counts : 12 ≤ d.countsPerRev ∧ d.countsPerRev ≤ 4096) (speed : 100 ≤ d.vMax ∧ d.vMax ≤ 5000) :
    2 ≤ (wheelFigures d).vMaxCps ∧ (wheelFigures d).vMaxCps ≤ 162540 :=
  fullSpeed_range (circumference_range diameter)
    ⟨Nat.mul_le_mul speed.1 counts.1, Nat.mul_le_mul speed.2 counts.2⟩

/-! ## The obligation -/

/-- Settles O47: the figures at `applyImage`, what every step keeps, and their ranges. -/
theorem wheelFiguresFollowTheImage : Obligations.WheelFiguresFollowTheImage := by
  unfold Obligations.WheelFiguresFollowTheImage
  refine ⟨fun _ _ => figures_of_corner, fun _ _ => figures_of_other, rfl, fun _ _ => step_keeps_figuresInv,
    ⟨rfl, fun _ => ⟨rfl, rfl⟩⟩, fun i ranges => ?ranges, fun s x absent => ?absent⟩
  case ranges =>
    obtain ⟨least, greatest⟩ := circumference_range ranges.wheelDiameter
    exact ⟨least, greatest, vMaxCps_range ranges.wheelDiameter ranges.countsPerRev ranges.vMax⟩
  case absent =>
    unfold throttleTarget assistTarget wheelSpeed
    rw [absent]
    exact ⟨rfl, by split <;> trivial, rfl⟩

end Sys2Proof.WheelDrive
end

section
/-! SUPPORT. The drive tick (R129 to R137): the loss watch, the rows of Table 7-2 one by one, and what a corner's tick leaves. -/

namespace Sys2Proof.WheelDrive

open Sys2Proof Sys2Proof.Machine Sys2Proof.Safety

set_option Elab.async false

variable {s t : State} {isa : Nat}

/-! ## The loss of the encoder (R134) -/

/-- Bridge A is driven above 300 per mille. -/
abbrev DrivenHard (s : State) : Prop :=
  (s.bridgeA.active.mode = .fwd ∨ s.bridgeA.active.mode = .rev) ∧ 300 < s.bridgeA.active.duty

/-- The encoder is lost, or this tick's 5 ms complete the loss watch. -/
abbrev Lost (s : State) : Prop := s.drive.encoderLost = true ∨ (DrivenHard s ∧ 495 ≤ s.drive.lossWatch)

/-- The encoder is lost at this tick. -/
abbrev LosesNow (s : State) : Prop := s.drive.encoderLost = false ∧ DrivenHard s ∧ 495 ≤ s.drive.lossWatch

theorem drivenHard_iff : drivenHard s.bridgeA = true ↔ DrivenHard s := by
  simp [drivenHard, DrivenHard]

/-- The record of a lost encoder: bridge A with its active duty (R134, R200). -/
def encoderRecord (s : State) : FaultRecord :=
  { kind := .encoder, output := .bridgeA, state := s.node.state, uptime := s.node.uptime
    detail := clampInt (-32768) 32767 s.bridgeA.active.duty }

/-- The state that has just lost its encoder, its event apart. -/
def encoderDropped (s : State) : State :=
  { s with
    drive := { s.drive with encoderLost := true, recovery := 0, integrator := 0, lossWatch := 500 }
    monitor := { s.monitor with faults := (encoderRecord s :: s.monitor.faults).take 8 } }

theorem sameButReport_loseEncoder (s : State) : SameButReport (encoderDropped s) (loseEncoder s) :=
  Steering.sameButReport_raiseEvent _ _

/-- The loss watch after a tick; it stands while the encoder is lost (log 29). -/
def watchAfter (s : State) : Nat :=
  if s.drive.encoderLost = true then s.drive.lossWatch else if LosesNow s then 500
  else if DrivenHard s then s.drive.lossWatch + 5 else 0

/-- The state once the loss watch has run, its event apart. -/
def watched (s : State) : State :=
  { s with
    drive := { s.drive with
      encoderLost := decide (Lost s), recovery := if LosesNow s then 0 else s.drive.recovery
      integrator := if LosesNow s then 0 else s.drive.integrator, lossWatch := watchAfter s }
    monitor := { s.monitor with
      faults := if LosesNow s then (encoderRecord s :: s.monitor.faults).take 8 else s.monitor.faults } }

theorem watched_loses (loses : LosesNow s) : watched s = encoderDropped s := by
  have known : ¬ s.drive.encoderLost = true := Bool.eq_false_iff.1 loses.1
  have lost : decide (Lost s) = true := decide_eq_true (.inr loses.2)
  rw [watched, watchAfter, if_neg known, if_pos loses, if_pos loses, if_pos loses, if_pos loses, lost]
  rfl

/-- A tick that loses no encoder moves the loss watch alone. -/
theorem watched_keeps (keeps : ¬ LosesNow s) :
    watched s = s.setDrive { s.drive with lossWatch := watchAfter s } := by
  have lost : decide (Lost s) = s.drive.encoderLost := by
    by_cases known : s.drive.encoderLost = true
    · exact (decide_eq_true (.inl known)).trans known.symm
    · refine (decide_eq_false ?_).trans (Bool.eq_false_iff.2 known).symm
      rintro (already | long)
      · exact known already
      · exact keeps ⟨Bool.eq_false_iff.2 known, long⟩
  rw [watched, if_neg keeps, if_neg keeps, if_neg keeps, lost]
  rfl

theorem watchLoss_loses (loses : LosesNow s) : watchLoss s = loseEncoder s := by
  obtain ⟨known, hard, long⟩ := loses
  have full : 500 ≤ s.drive.lossWatch + 5 := by omega
  simp only [watchLoss, known, Bool.false_eq_true, if_false, drivenHard_iff.2 hard, if_true, full]

theorem watchLoss_keeps (keeps : ¬ LosesNow s) : watchLoss s = s.setDrive { s.drive with lossWatch := watchAfter s } := by
  unfold watchLoss
  rw [watchAfter, if_neg keeps]
  by_cases known : s.drive.encoderLost = true
  · rw [if_pos known, if_pos known]
    rfl
  rw [if_neg known, if_neg known]
  by_cases hard : DrivenHard s
  · have short : ¬ 500 ≤ s.drive.lossWatch + 5 := fun full =>
      keeps ⟨Bool.eq_false_iff.2 known, hard, by omega⟩
    rw [if_pos (drivenHard_iff.2 hard), if_neg short, if_pos hard]
  · rw [if_neg fun drives => hard (drivenHard_iff.1 drives), if_neg hard]

theorem sameButReport_watchLoss (s : State) : SameButReport (watched s) (watchLoss s) := by
  by_cases loses : LosesNow s
  · rw [watched_loses loses, watchLoss_loses loses]
    exact sameButReport_loseEncoder s
  · rw [watched_keeps loses, watchLoss_keeps loses]
    rfl

/-! ## The rows of Table 7-2 (R135) -/

theorem takeRow_early {r : RowResult} (early : earlyRow s = some r) : takeRow isa s = (r, 0) := by
  simp only [takeRow, early]

theorem takeRow_withdrawn (withdrawn : s.monitor.withdrawn.bridgeA = true) :
    takeRow isa s = (holdRow .held (some ⟨s.monitor.holdA.getD .off, 0⟩) s, 0) := takeRow_early (if_pos withdrawn)

section
variable (serves : ¬ s.monitor.withdrawn.bridgeA = true)
include serves

theorem takeRow_tripWait (wait : s.drive.tripWait ≠ none) : takeRow isa s = (holdRow .tripWait none s, 0) :=
  takeRow_early ((if_neg serves).trans (if_pos (Option.isSome_iff_ne_none.2 wait)))

variable (free : ¬ s.drive.tripWait ≠ none)
include free

/-- Past the first two rows. -/
theorem earlyRow_free : earlyRow s =
    if s.node.state ≠ .run then
      if testHoldsA s then some (holdRow .held none s) else some (holdRow .held (some ⟨.brake, 0⟩) s)
    else if thermalClass s = .shutdown then some (holdRow .held (some ⟨.brake, 0⟩) s)
    else if assistInForce s = true ∧ assistTarget s = none then some (holdRow .stop (some ⟨.brake, 0⟩) s)
    else none :=
  (if_neg serves).trans (if_neg fun wait => free (Option.isSome_iff_ne_none.1 wait))

/-- Outside RUN the bridge brakes, but a CHECK test keeps it (log 17). -/
theorem takeRow_elsewhere (elsewhere : s.node.state ≠ .run) :
    takeRow isa s = (holdRow .held (if testHoldsA s then none else some ⟨.brake, 0⟩) s, 0) := by
  refine takeRow_early ?_
  rw [earlyRow_free serves free, if_pos elsewhere]
  split <;> rfl

variable (run : ¬ s.node.state ≠ .run)
include run

theorem takeRow_shutdown (shutdown : thermalClass s = .shutdown) :
    takeRow isa s = (holdRow .held (some ⟨.brake, 0⟩) s, 0) := by
  refine takeRow_early ?_
  rw [earlyRow_free serves free, if_neg run, if_pos shutdown]

variable (cool : ¬ thermalClass s = .shutdown)
include cool

theorem takeRow_stop (stop : assistInForce s = true ∧ assistTarget s = none) :
    takeRow isa s = (holdRow .stop (some ⟨.brake, 0⟩) s, 0) := by
  refine takeRow_early ?_
  rw [earlyRow_free serves free, if_neg run, if_neg cool, if_pos stop]

/-- The ramped throttle that rows 6 to 9 leave (R129, R131). -/
def rampedAfter (s : State) : Int :=
  if assistInForce s then 0 else approach s.drive.ramped (presented s).throttle (fieldsOf s).drive.throttleRamp

theorem takeRow_late (goes : ¬ (assistInForce s = true ∧ assistTarget s = none)) :
    takeRow isa s = (lateRow s isa (rampedAfter s) s.drive.measured, rampedAfter s) := by
  have early : earlyRow s = none := by rw [earlyRow_free serves free, if_neg run, if_neg cool, if_neg goes]
  simp only [takeRow, early]
  rfl

end

/-- The ceiling that rows 6 to 9 leave (R137). -/
def ceilingAfter (isa : Nat) (s : State) : Nat := moveCeiling isa s.power.grants.bridgeA s.drive.ceiling

/-- The target of rows 7 to 9 (R130, R131). -/
def targetAt (s : State) (ramped : Int) : Int :=
  if assistInForce s then (assistTarget s).getD 0 else throttleTarget s ramped

variable {ramped measured : Int}

theorem lateRow_neutral (neutral : assistInForce s = false ∧ ramped.natAbs < (fieldsOf s).drive.throttleDeadband) :
    lateRow s isa ramped measured =
      { condition := .neutral, target := 0, integrator := 0, ceiling := ceilingAfter isa s, cut := false
        set := some ⟨.drag, 0⟩ } := if_pos neutral

section
variable (moves : ¬ (assistInForce s = false ∧ ramped.natAbs < (fieldsOf s).drive.throttleDeadband))
include moves

theorem lateRow_reversal (reversal : targetAt s ramped * measured < 0 ∧ 40 < measured.natAbs) :
    lateRow s isa ramped measured =
      { condition := .reversalHold, target := targetAt s ramped, integrator := 0, ceiling := ceilingAfter isa s
        cut := false, set := some ⟨.brake, 0⟩ } := (if_neg moves).trans (if_pos reversal)

variable (onward : ¬ (targetAt s ramped * measured < 0 ∧ 40 < measured.natAbs))
include onward

/-- A duty under the ceiling. -/
def underCeiling (ceiling : Nat) (raw : Int) : Int := clampInt (-ceiling) ceiling raw

/-- The raw duty of the feed-forward alone (R134). -/
def openRaw (s : State) (target : Int) : Int := clampInt (-500) 500 (rdiv (target * (fieldsOf s).drive.kf) 1024)

theorem lateRow_open (lost : s.drive.encoderLost = true) :
    lateRow s isa ramped measured =
      { condition := .openLoop, target := targetAt s ramped, integrator := 0, ceiling := ceilingAfter isa s
        cut := underCeiling (ceilingAfter isa s) (openRaw s (targetAt s ramped)) ≠ openRaw s (targetAt s ramped)
        set := some (settingOf (underCeiling (ceilingAfter isa s) (openRaw s (targetAt s ramped)))) } :=
  (if_neg moves).trans ((if_neg onward).trans (if_pos lost))

/-- The integrator of the closed loop after its step (R136). -/
def loopIntegrator (s : State) (err : Int) : Int := integrate (gainsOf (fieldsOf s).drive) s.drive.integrator err

/-- The raw duty of the closed loop (R136). -/
def loopRaw (s : State) (target err : Int) : Int :=
  rawDuty (gainsOf (fieldsOf s).drive) target err (loopIntegrator s err)

theorem lateRow_loop (known : ¬ s.drive.encoderLost = true) :
    lateRow s isa ramped measured =
      { condition := .loop, target := targetAt s ramped, integrator := loopIntegrator s (targetAt s ramped - measured)
        ceiling := ceilingAfter isa s
        cut := underCeiling (ceilingAfter isa s) (loopRaw s (targetAt s ramped) (targetAt s ramped - measured)) ≠
          loopRaw s (targetAt s ramped) (targetAt s ramped - measured)
        set := some (loopSetting (targetAt s ramped)
          (underCeiling (ceilingAfter isa s) (loopRaw s (targetAt s ramped) (targetAt s ramped - measured)))) } :=
  (if_neg moves).trans ((if_neg onward).trans (if_neg known))

end

/-! ## The tick of a corner -/

/-- The readings of a tick: the current, the measured speed and the reported one (R132, R133). -/
def speedRead (isa : Nat) (s : State) : State :=
  { s with
    pins := { s.pins with isa }
    drive := { s.drive with
      timer := 0, measured := measuredSpeed s.drive, speed := wheelSpeed s (measuredSpeed s.drive) } }

/-- The previous magnitude recorded, which the row then reads with the rest (R129). -/
def rampRecorded (s : State) : State := s.setDrive { s.drive with prevRamped := s.drive.tickRamped }

/-- The state as a row of Table 7-2 leaves it. -/
def rowWritten (r : RowResult × Int) (s : State) : State :=
  { s with
    drive := { s.drive with
      ramped := r.2, tickRamped := r.2.natAbs, condition := r.1.condition, target := r.1.target
      integrator := r.1.integrator, ceiling := r.1.ceiling, limited := s.drive.limited || r.1.cut }
    bridgeA := { s.bridgeA with next := r.1.set.getD s.bridgeA.next } }

/-- A tick from the loss watch to the flags. -/
def rowTaken (isa : Nat) (s : State) : State := rowWritten (takeRow isa (rampRecorded s)) (rampRecorded s)

/-- The two flags of R143. -/
def flagged (s : State) : State :=
  s.setDrive { s.drive with braking := brakingNow s, reversing := s.bridgeA.active.mode = .rev }

/-- The state after a corner's tick, its events apart. -/
def cornerTicked (isa : Nat) (s : State) : State := flagged (rowTaken isa (watched (speedRead isa s)))

theorem writeIf_eq (set : Option Setting) (s : State) :
    writeIf set s = s.setBridgeA { s.bridgeA with next := set.getD s.bridgeA.next } := by
  cases set <;> rfl

theorem cornerTick_eq (isa : Nat) (s : State) :
    cornerTick isa ((s.setPins { s.pins with isa }).setDrive { s.drive with timer := 0 }) =
      setDriveFlags (rowTaken isa (watchLoss (speedRead isa s))) := by
  unfold cornerTick
  dsimp only
  rw [writeIf_eq]
  rfl

theorem sameButReport_rowTaken (h : SameButReport s t) : SameButReport (rowTaken isa s) (rowTaken isa t) :=
  congrArg (rowTaken isa) h

theorem sameButReport_flagged (h : SameButReport s t) : SameButReport (flagged s) (flagged t) := congrArg flagged h

/-- A change of BRAKING is an event (R43). -/
theorem setDriveFlags_eq (s : State) : setDriveFlags s =
    if brakingNow s = s.drive.braking then flagged s else raiseEvent .brakingChange (flagged s) := rfl

theorem sameButReport_setDriveFlags (s : State) : SameButReport (flagged s) (setDriveFlags s) := by
  rw [setDriveFlags_eq]
  split
  · rfl
  · exact Steering.sameButReport_raiseEvent _ _

theorem execDriveTick_corner (corner : roleOf s = .corner) : execDriveTick isa s =
    .next (settle (setDriveFlags (rowTaken isa (watchLoss (speedRead isa s))))) := by
  unfold execDriveTick
  rw [corner]
  exact congrArg done (cornerTick_eq isa s)

theorem sameButReport_cornerTick (isa : Nat) (s : State) :
    SameButReport (cornerTicked isa s) (settle (setDriveFlags (rowTaken isa (watchLoss (speedRead isa s))))) :=
  NodeControl.sameButReport_trans (sameButReport_flagged (sameButReport_rowTaken (sameButReport_watchLoss _)))
    (NodeControl.sameButReport_trans (sameButReport_setDriveFlags _) (NodeControl.sameButReport_settle _))

end Sys2Proof.WheelDrive
end

section
/-! SUPPORT. The figures of a drive tick in RUN, and what each row of Table 7-2 leaves (R129 to R136). -/

namespace Sys2Proof.WheelDrive

open Sys2Proof Sys2Proof.Machine Sys2Proof.Safety

set_option Elab.async false

variable {s t : State} {isa : Nat}

/-! ## The figures of a tick in RUN -/

/-- Assist is in force. -/
abbrev Assists (s : State) : Prop := s.node.state = .run ∧ s.intake.record.assist = true

theorem presented_run (run : s.node.state = .run) : presented s = s.intake.record :=
  if_neg (by simp only [run, reduceCtorEq, not_false_eq_true])

theorem assistInForce_iff : assistInForce s = true ↔ Assists s := by
  unfold assistInForce
  rw [Bool.and_eq_true, decide_eq_true_eq]
  exact and_congr_right fun run => by rw [presented_run run]

theorem assistInForce_false : assistInForce s = false ↔ ¬ Assists s := by rw [← Bool.not_eq_true, assistInForce_iff]

/-- The ramped throttle a tick in RUN moves to (R129, R131). -/
def rampWanted (s : State) : Int :=
  if Assists s then 0 else approach s.drive.ramped s.intake.record.throttle (fieldsOf s).drive.throttleRamp

/-- The target of a tick in RUN (R130, R131). -/
def targetWanted (s : State) : Int :=
  if Assists s then (assistTarget s).getD 0 else throttleTarget s (rampWanted s)

/-- The readings of the tick and its loss watch, as the rows of Table 7-2 read them. -/
def tickBase (isa : Nat) (s : State) : State := rampRecorded (watched (speedRead isa s))

theorem rampedAfter_base (run : s.node.state = .run) : rampedAfter (tickBase isa s) = rampWanted s := by
  refine if_congr assistInForce_iff rfl ?_
  rw [presented_run (s := tickBase isa s) run]
  rfl

theorem targetAt_base : targetAt (tickBase isa s) (rampWanted s) = targetWanted s := if_congr assistInForce_iff rfl rfl

/-! ## What a row leaves -/

/-- `t` is left by a tick that took the row `r` from `s`. -/
structure RowLeft (r : RowResult × Int) (s t : State) : Prop where
  condition : t.drive.condition = r.1.condition
  target : t.drive.target = r.1.target
  integrator : t.drive.integrator = r.1.integrator
  ramped : t.drive.ramped = r.2
  ceiling : t.drive.ceiling = r.1.ceiling
  next : t.bridgeA.next = r.1.set.getD s.bridgeA.next

theorem rowLeft_of_takeRow {r : RowResult × Int} (changes : SameButReport (cornerTicked isa s) t)
    (takes : takeRow isa (tickBase isa s) = r) : RowLeft r s t := by
  have drive : t.drive = (cornerTicked isa s).drive := by rw [changes]
  have bridge : t.bridgeA = (cornerTicked isa s).bridgeA := by rw [changes]
  subst takes
  exact {
    condition := congrArg Drive.condition drive, target := congrArg Drive.target drive
    integrator := congrArg Drive.integrator drive, ramped := congrArg Drive.ramped drive
    ceiling := congrArg Drive.ceiling drive, next := congrArg Bridge.next bridge }

/-- A holding row leaves target, integrator and ramp at 0 and the ceiling unmoved. -/
theorem RowLeft.holds {c : DriveCondition} {set : Option Setting} (left : RowLeft (holdRow c set (tickBase isa s), 0) s t) :
    t.drive.condition = c ∧
      (t.drive.target = 0 ∧ t.drive.integrator = 0 ∧ t.drive.ramped = 0 ∧ t.drive.ceiling = s.drive.ceiling) ∧
      t.bridgeA.next = set.getD s.bridgeA.next :=
  ⟨left.condition, ⟨left.target, left.integrator, left.ramped, left.ceiling⟩, left.next⟩

/-- A moving row leaves the ramp and the ceiling of a tick in RUN. -/
theorem RowLeft.moves {row : RowResult} (left : RowLeft (row, rampWanted s) s t)
    (ceiling : row.ceiling = ceilingAfter isa (tickBase isa s)) :
    t.drive.ramped = rampWanted s ∧ t.drive.ceiling = moveCeiling isa s.power.grants.bridgeA s.drive.ceiling :=
  ⟨left.ramped, left.ceiling.trans ceiling⟩

/-- Past rows 1 to 5 the late rows decide, with the ramp of a tick in RUN. -/
theorem rowLeft_of_lateRow {row : RowResult} (changes : SameButReport (cornerTicked isa s) t)
    (serves : ¬ s.monitor.withdrawn.bridgeA = true) (free : ¬ s.drive.tripWait ≠ none) (run : ¬ s.node.state ≠ .run)
    (cool : ¬ thermalClass s = .shutdown) (goes : ¬ (Assists s ∧ assistTarget s = none))
    (row_eq : lateRow (tickBase isa s) isa (rampWanted s) (measuredSpeed s.drive) = row) :
    RowLeft (row, rampWanted s) s t := by
  refine rowLeft_of_takeRow changes ((takeRow_late (s := tickBase isa s) serves free run cool
    fun stops => goes ⟨assistInForce_iff.1 stops.1, stops.2⟩).trans ?_)
  rw [rampedAfter_base (Classical.not_not.1 run)]
  exact congrArg (·, rampWanted s) row_eq

theorem base_moves (moves : ¬ (¬ Assists s ∧ (rampWanted s).natAbs < (fieldsOf s).drive.throttleDeadband)) :
    ¬ (assistInForce (tickBase isa s) = false ∧
      (rampWanted s).natAbs < (fieldsOf (tickBase isa s)).drive.throttleDeadband) :=
  fun neutral => moves ⟨assistInForce_false.1 neutral.1, neutral.2⟩

theorem base_integrator (known : ¬ Lost s) : (tickBase isa s).drive.integrator = s.drive.integrator :=
  if_neg fun loses : LosesNow s => known (.inr loses.2)

/-! ## The flags of a tick (R143) -/

/-- BRAKING after a tick that leaves the speed `speed` and the ramp `ramped`. -/
theorem cornerTicked_braking (isa : Nat) (s : State) : (cornerTicked isa s).drive.braking =
    decide (((s.bridgeA.active.mode = .brake ∨ s.bridgeA.active.mode = .drag) ∧
      30 ≤ (cornerTicked isa s).drive.speed.natAbs) ∨
      (cornerTicked isa s).drive.ramped.natAbs < s.drive.tickRamped) := by
  rw [Bool.decide_or, Bool.decide_and, Bool.decide_or]
  rfl

theorem brakingNow_of_same (same : SameButReport s t) : brakingNow t = brakingNow s := by
  rw [same]
  rfl

theorem braking_of_same (same : SameButReport s t) : t.drive.braking = s.drive.braking := by rw [same]

/-- The tick up to its flags, with the events of the loss watch. -/
theorem sameButReport_rowTaken_watchLoss (isa : Nat) (s : State) :
    SameButReport (rowTaken isa (watched (speedRead isa s))) (rowTaken isa (watchLoss (speedRead isa s))) :=
  sameButReport_rowTaken (sameButReport_watchLoss _)

end Sys2Proof.WheelDrive
end

section
/-! THEOREM. The drive tick takes the first row of Table 7-2 that matches, and sets BRAKING, REVERSING and ASSIST (O48). -/

namespace Sys2Proof.WheelDrive

open Sys2Proof Sys2Proof.Machine Sys2Proof.Safety

set_option Elab.async false

variable {s t : State} {isa : Nat}

theorem raiseEvent_sequence (e : ReportEvent) (s : State) : (raiseEvent e s).node.sequence = s.node.sequence := by
  rw [NodeControl.raiseEvent_frame]
  rfl

theorem watchLoss_sequence (s : State) : (watchLoss s).node.sequence = s.node.sequence := by
  by_cases loses : LosesNow s
  · rw [watchLoss_loses loses]
    exact raiseEvent_sequence _ _
  · rw [watchLoss_keeps loses]
    rfl

theorem setDriveFlags_sequence (s : State) : (setDriveFlags s).node.sequence = s.node.sequence := by
  rw [setDriveFlags_eq]
  split
  · rfl
  · exact raiseEvent_sequence _ _

/-- A change of BRAKING that is selected, in a state that reports, is a REPORT at once or a held event (R43). -/
theorem tick_braking_event (selected : eventSelected s .brakingChange = true) (reports : reportsNow s = true)
    (changed : (cornerTicked isa s).drive.braking ≠ s.drive.braking) :
    (settle (setDriveFlags (rowTaken isa (watchLoss (speedRead isa s))))).node.sequence = (s.node.sequence + 1) % 16 ∨
      (settle (setDriveFlags (rowTaken isa (watchLoss (speedRead isa s))))).node.heldEvent = true := by
  have same := sameButReport_rowTaken_watchLoss isa s
  have selectedThen : eventSelected (flagged (rowTaken isa (watchLoss (speedRead isa s)))) .brakingChange = true := by
    rw [same]; exact selected
  have reportsThen : reportsNow (flagged (rowTaken isa (watchLoss (speedRead isa s)))) = true := by
    rw [same]; exact reports
  have sequence : (setDriveFlags (rowTaken isa (watchLoss (speedRead isa s)))).node.sequence = s.node.sequence :=
    (setDriveFlags_sequence _).trans (watchLoss_sequence (speedRead isa s))
  have changedThen : brakingNow (rowTaken isa (watchLoss (speedRead isa s))) ≠
      (rowTaken isa (watchLoss (speedRead isa s))).drive.braking := by
    rw [brakingNow_of_same same, braking_of_same same]
    exact changed
  rw [← sequence]
  refine CommandIntake.settle_due ?_
  rw [setDriveFlags_eq, if_neg changedThen]
  exact CommandIntake.raiseEvent_due selectedThen reportsThen

/-- With no change of BRAKING and no encoder lost, the tick leaves the node block. -/
theorem tick_quiet (known : ¬ LosesNow s) (same : (cornerTicked isa s).drive.braking = s.drive.braking)
    (quiet : s.node.eventDue = false) :
    (settle (setDriveFlags (rowTaken isa (watchLoss (speedRead isa s))))).node = s.node := by
  have watch : watchLoss (speedRead isa s) = watched (speedRead isa s) :=
    (watchLoss_keeps (s := speedRead isa s) known).trans (watched_keeps (s := speedRead isa s) known).symm
  have flags : setDriveFlags (rowTaken isa (watched (speedRead isa s))) = cornerTicked isa s := if_pos same
  rw [watch, flags]
  exact congrArg State.node (settle_quiet (cornerTicked isa s) quiet) |>.trans rfl

theorem testHoldsA_iff : testHoldsA s = true ↔ s.monitor.waiting = false ∧ (s.monitor.position = some .pullDownA ∨
    s.monitor.position = some .pullUpA ∨ s.monitor.position = some .loadA) := by
  simp only [testHoldsA, Bool.and_eq_true, Bool.not_eq_true', Bool.or_eq_true, decide_eq_true_eq, or_assoc]

/-- Rows 6 to 9 of Table 7-2. -/
theorem tick_movingRows (changes : SameButReport (cornerTicked isa s) t)
    (serves : ¬ s.monitor.withdrawn.bridgeA = true) (free : ¬ s.drive.tripWait ≠ none) (run : ¬ s.node.state ≠ .run)
    (cool : ¬ thermalClass s = .shutdown) (goes : ¬ (Assists s ∧ assistTarget s = none)) :
    let f := (fieldsOf s).drive
    let m := measuredSpeed s.drive
    let ramped := rampWanted s
    let ceiling := moveCeiling isa s.power.grants.bridgeA s.drive.ceiling
    let target := targetWanted s
    let err := target - m
    let integ := clampInt (-1000) 1000 ((if Lost s then 0 else s.drive.integrator) + rdiv (err * f.ki) 64)
    let raw := if Lost s then clampInt (-500) 500 (rdiv (target * f.kf) 1024)
      else rdiv (target * f.kf) 1024 + rdiv (err * f.kp) 64 + integ
    let driven := settingOf (clampInt (-(ceiling : Int)) ceiling raw)
    let moves := t.drive.ramped = ramped ∧ t.drive.ceiling = ceiling
    if ¬ Assists s ∧ ramped.natAbs < f.throttleDeadband then
      t.drive.condition = .neutral ∧ moves ∧ t.drive.target = 0 ∧ t.drive.integrator = 0 ∧ t.bridgeA.next = ⟨.drag, 0⟩
    else if target * m < 0 ∧ 40 < m.natAbs then
      t.drive.condition = .reversalHold ∧ moves ∧ t.drive.target = target ∧ t.drive.integrator = 0 ∧
        t.bridgeA.next = ⟨.brake, 0⟩
    else if Lost s then
      t.drive.condition = .openLoop ∧ moves ∧ t.drive.target = target ∧ t.drive.integrator = 0 ∧ t.bridgeA.next = driven
    else
      t.drive.condition = .loop ∧ moves ∧ t.drive.target = target ∧ t.drive.integrator = integ ∧
        t.bridgeA.next = if clampInt (-(ceiling : Int)) ceiling raw * target < 0 then ⟨.brake, 0⟩ else driven := by
  intro f m ramped ceiling target err integ raw driven moves
  have left {row} := rowLeft_of_lateRow (row := row) changes serves free run cool goes
  by_cases neutral : ¬ Assists s ∧ ramped.natAbs < f.throttleDeadband
  · rw [if_pos neutral]
    have row := left (lateRow_neutral ⟨assistInForce_false.2 neutral.1, neutral.2⟩)
    exact ⟨row.condition, row.moves rfl, row.target, row.integrator, row.next⟩
  have past := base_moves (isa := isa) neutral
  by_cases reversal : target * m < 0 ∧ 40 < m.natAbs
  · rw [if_neg neutral, if_pos reversal]
    have row := left (lateRow_reversal past (by rwa [targetAt_base]))
    rw [targetAt_base] at row
    exact ⟨row.condition, row.moves rfl, row.target, row.integrator, row.next⟩
  have onward : ¬ (targetAt (tickBase isa s) (rampWanted s) * m < 0 ∧ 40 < m.natAbs) := by rwa [targetAt_base]
  by_cases lost : Lost s
  · rw [if_neg neutral, if_neg reversal, if_pos lost]
    have row := left (lateRow_open past onward (decide_eq_true lost))
    rw [targetAt_base] at row
    have openDuty : raw = openRaw (tickBase isa s) target := if_pos lost
    refine ⟨row.condition, row.moves rfl, row.target, row.integrator, row.next.trans ?_⟩
    simp only [driven, openDuty]
    rfl
  · rw [if_neg neutral, if_neg reversal, if_neg lost]
    have row := left (lateRow_loop past onward (Bool.eq_false_iff.1 (decide_eq_false lost)))
    rw [targetAt_base] at row
    have integ_eq : integ = loopIntegrator (tickBase isa s) err := by
      simp only [integ, if_neg lost, loopIntegrator, base_integrator lost]
      rfl
    have loopDuty : raw = loopRaw (tickBase isa s) target err := by
      simp only [raw, if_neg lost, integ_eq]
      rfl
    refine ⟨row.condition, row.moves rfl, row.target, row.integrator.trans integ_eq.symm, row.next.trans ?_⟩
    simp only [driven, loopDuty]
    rfl

theorem reportFlag_assist (corner : roleOf t = .corner) : (reportFlags t).getD 7 false = assistInForce t := by
  simp [reportFlags, corner]

theorem execDriveTick_elsewhere (other : roleOf s ≠ .corner) : ∃ t, exec (.driveTick isa) s = .next t := by
  cases role : roleOf s with
  | corner => exact absurd role other
  | plain | unplaced | winch =>
    simp only [exec, execDriveTick, role]
    exact ⟨_, rfl⟩

/-- Settles O48: the rows of Table 7-2 are taken one by one on the state that the readings and the loss watch leave. -/
theorem driveTickFollowsItsTable : Obligations.DriveTickFollowsItsTable := by
  refine ⟨fun isa s => ?_, fun isa s => ?_⟩
  · cases role : roleOf s with
    | plain | unplaced | winch =>
      refine ⟨_, ?_, rfl⟩
      simp only [exec, execDriveTick, role]
      rfl
    | corner =>
      refine ⟨_, execDriveTick_corner role, ?_⟩
      have changes := sameButReport_cornerTick isa s
      generalize settle (setDriveFlags (rowTaken isa (watchLoss (speedRead isa s)))) = t at changes ⊢
      have drive : t.drive = (cornerTicked isa s).drive := by rw [changes]
      have bridge : t.bridgeA = (cornerTicked isa s).bridgeA := by rw [changes]
      have faults : t.monitor.faults = (cornerTicked isa s).monitor.faults := by rw [changes]
      have left {r} := rowLeft_of_takeRow (r := r) changes
      intro f m assist hard lost testing ramped ceiling target err integ raw duty driven holds moves
      refine ⟨by rw [drive]; rfl, by rw [drive]; rfl, by rw [drive]; rfl, by rw [bridge]; rfl, by rw [bridge]; rfl,
        by rw [drive, bridge, faults]; exact changes, ?_⟩
      by_cases withdrawn : s.monitor.withdrawn.bridgeA = true
      · rw [if_pos withdrawn]
        exact (left (takeRow_withdrawn withdrawn)).holds
      by_cases wait : s.drive.tripWait ≠ none
      · rw [if_neg withdrawn, if_pos wait]
        exact (left (takeRow_tripWait withdrawn wait)).holds
      by_cases elsewhere : s.node.state ≠ .run
      · rw [if_neg withdrawn, if_neg wait, if_pos elsewhere]
        obtain ⟨held, holds, next⟩ := (left (takeRow_elsewhere withdrawn wait elsewhere)).holds
        refine ⟨held, holds, next.trans ?_⟩
        rw [apply_ite (Option.getD · s.bridgeA.next)]
        exact if_congr testHoldsA_iff rfl rfl
      by_cases shutdown : thermalClass s = .shutdown
      · rw [if_neg withdrawn, if_neg wait, if_neg elsewhere, if_pos shutdown]
        exact (left (takeRow_shutdown withdrawn wait elsewhere shutdown)).holds
      by_cases stops : assist ∧ assistTarget s = none
      · rw [if_neg withdrawn, if_neg wait, if_neg elsewhere, if_neg shutdown, if_pos stops]
        exact (left (takeRow_stop withdrawn wait elsewhere shutdown ⟨assistInForce_iff.2 stops.1, stops.2⟩)).holds
      rw [if_neg withdrawn, if_neg wait, if_neg elsewhere, if_neg shutdown, if_neg stops]
      exact tick_movingRows changes withdrawn wait elsewhere shutdown stops
  · by_cases corner : roleOf s = .corner
    · refine ⟨_, execDriveTick_corner corner, fun _ => ?_⟩
      have changes := sameButReport_cornerTick isa s
      have event := tick_braking_event (s := s) (isa := isa)
      have quiet := tick_quiet (s := s) (isa := isa)
      generalize settle (setDriveFlags (rowTaken isa (watchLoss (speedRead isa s)))) = t at changes event quiet ⊢
      have drive : t.drive = (cornerTicked isa s).drive := by rw [changes]
      have role : roleOf t = .corner := by rw [changes]; exact corner
      have assist : assistInForce t = assistInForce s := by rw [changes]; rfl
      rw [drive]
      refine ⟨rfl, ?_, cornerTicked_braking isa s, rfl, rfl, fun changed selected reports => event selected reports changed,
        fun same found undue => quiet ?_ same undue⟩
      · rw [reportFlag_assist role, assist, Bool.eq_iff_iff, decide_eq_true_eq]
        exact assistInForce_iff
      · rintro ⟨known, long⟩
        have lost : decide (Lost s) = true := decide_eq_true (.inr long)
        exact absurd (lost.symm.trans found) (by rw [known]; decide)
    · obtain ⟨t, runs⟩ := execDriveTick_elsewhere (isa := isa) corner
      exact ⟨t, runs, fun is => absurd is corner⟩

end Sys2Proof.WheelDrive
end

section
/-! SUPPORT. An operation ended (R158, R163), and an edge of the encoder on a corner and on the winch position (R132, R134, R153). -/

namespace Sys2Proof.WheelDrive

open Sys2Proof Sys2Proof.Machine Sys2Proof.Safety Sys2Proof.NodeControl Sys2Proof.CommandIntake

set_option Elab.async false

variable {s t : State} {dir : Direction} {interval : Nat} {reason : EndReason} {d : DrumState}

/-! ## An operation ended -/

theorem sameButDrum_brakeBridgeA (h : SameButDrum s t) : SameButDrum (brakeBridgeA s) (brakeBridgeA t) :=
  congrArg brakeBridgeA h

/-- An operation's end brakes bridge A at once; the rest is the drum's (R158). -/
theorem sameButDrum_endOperation (reason : EndReason) (d : DrumState) (s : State) :
    SameButDrum (brakeBridgeA s) (endOperation reason d s) :=
  (sameButDrum_brakeBridgeA (sameButDrum_closeOperation reason s)).trans (sameButDrum_setDrum _ _)

theorem endOperation_drum : (endOperation reason d s).winch.drum = d := setDrum_drum _ _

theorem endOperation_op : (endOperation reason d s).winch.op = none := by
  obtain ⟨log, closed⟩ := closeOperation_eq reason s
  rw [endOperation, setDrum_op, closed]
  rfl

theorem endOperation_log (running : s.winch.drum = .haulIn ∨ s.winch.drum = .payOut) :
    (endOperation reason d s).winch.log = endedLog s.winch.op reason s := by
  have closed := closeOperation_log reason s
  rw [if_pos running] at closed
  exact (setDrum_log _ _).trans closed

/-! ## The capture of an edge (R132) -/

/-- The edge has the direction of the last one. -/
abbrev SameDirection (dir : Direction) (d : Drive) : Prop := (d.lastEdge.any fun e => decide (e.dir = dir)) = true

theorem captureEdge_eq (dir : Direction) (interval : Nat) (d : Drive) : captureEdge dir interval d = { d with
    latest := if SameDirection dir d then some (clampNat 1 250000 interval) else none
    previous := if SameDirection dir d then d.latest else none
    lastEdge := some { dir, age := 0 }, lossWatch := 0 } := by
  unfold captureEdge SameDirection
  cases d.lastEdge with
  | none => rfl
  | some e =>
    dsimp only [Option.any_some]
    split <;> rfl

/-- The state with the edge captured. -/
def edgeTaken (dir : Direction) (interval : Nat) (s : State) : State :=
  { s with drive := { s.drive with
    latest := if SameDirection dir s.drive then some (clampNat 1 250000 interval) else none
    previous := if SameDirection dir s.drive then s.drive.latest else none
    lastEdge := some { dir, age := 0 }, lossWatch := 0 } }

theorem setDrive_captureEdge (dir : Direction) (interval : Nat) (s : State) :
    s.setDrive (captureEdge dir interval s.drive) = edgeTaken dir interval s := by
  rw [captureEdge_eq]
  rfl

/-! ## Recovery (R134) -/

/-- The edge counts towards recovery. -/
abbrev Counts (dir : Direction) (s : State) : Prop := s.node.state = .run ∧ signOf s.drive.target = dirSign dir

theorem countRecovery_known (known : s.drive.encoderLost = false) : countRecovery dir s = s :=
  if_neg (by simp only [known, Bool.false_eq_true, not_false_eq_true])

section
variable (lost : s.drive.encoderLost = true)
include lost

theorem countRecovery_restarts (counts : ¬ Counts dir s) :
    countRecovery dir s = s.setDrive { s.drive with recovery := 0 } := (if_pos lost).trans (if_neg counts)

theorem countRecovery_counts (counts : Counts dir s) (few : s.drive.recovery < 7) :
    countRecovery dir s = s.setDrive { s.drive with recovery := s.drive.recovery + 1 } :=
  (if_pos lost).trans ((if_pos counts).trans (if_neg (by omega)))

theorem countRecovery_recovers (counts : Counts dir s) (many : ¬ s.drive.recovery < 7) :
    countRecovery dir s = recoverEncoder s := (if_pos lost).trans ((if_pos counts).trans (if_pos (by omega)))

end

/-- An edge on a corner, its loss watch restarted: encoder, recovery count and integrator (R134). -/
theorem countRecovery_spec (restarted : s.drive.lossWatch = 0) (counted : countRecovery dir s = t) :
    t = { s with drive := { s.drive with
      encoderLost := t.drive.encoderLost, recovery := t.drive.recovery, integrator := t.drive.integrator } } ∧
    (if s.drive.encoderLost = false then t.drive.encoderLost = false ∧ t.drive.recovery = s.drive.recovery
     else if s.node.state ≠ .run ∨ signOf s.drive.target ≠ dirSign dir then
      t.drive.encoderLost = true ∧ t.drive.recovery = 0
     else if s.drive.recovery < 7 then t.drive.encoderLost = true ∧ t.drive.recovery = s.drive.recovery + 1
     else t.drive.encoderLost = false ∧ t.drive.recovery = 8) ∧
    t.drive.integrator = (if s.drive.encoderLost = true ∧ t.drive.encoderLost = false then 0 else s.drive.integrator) := by
  by_cases known : s.drive.encoderLost = false
  · rw [countRecovery_known known] at counted
    subst counted
    rw [if_pos known, if_neg fun lost => absurd (known.symm.trans lost.1) (by decide)]
    exact ⟨rfl, ⟨known, rfl⟩, rfl⟩
  have lost : s.drive.encoderLost = true := Bool.eq_true_of_not_eq_false known
  have still {i : Int} (same : t.drive.encoderLost = true) :
      (if s.drive.encoderLost = true ∧ t.drive.encoderLost = false then 0 else i) = i :=
    if_neg fun found => absurd (same.symm.trans found.2) (by decide)
  rw [if_neg known]
  by_cases counts : Counts dir s
  · rw [if_neg (by rwa [ne_eq, ne_eq, not_or, not_not, not_not])]
    by_cases few : s.drive.recovery < 7
    · rw [countRecovery_counts lost counts few] at counted
      subst counted
      rw [if_pos few, still lost]
      exact ⟨rfl, ⟨lost, rfl⟩, rfl⟩
    · rw [countRecovery_recovers lost counts few] at counted
      subst counted
      rw [if_neg few, if_pos ⟨lost, rfl⟩]
      refine ⟨?_, ⟨rfl, rfl⟩, rfl⟩
      rw [recoverEncoder, ← restarted]
      rfl
  · rw [countRecovery_restarts lost counts] at counted
    subst counted
    rw [if_pos (not_and_or.1 counts), still lost]
    exact ⟨rfl, ⟨lost, rfl⟩, rfl⟩

/-! ## The drum's edge (R153, R158) -/

/-- The state with the edge counted as line, its operation marked. -/
def lineCounted (dir : Direction) (s : State) : State :=
  s.setWinch { s.winch with
    lineOut := countLine dir (fieldsOf s).winch.lineMmPer100 s.winch.lineOut, op := markFirstEdge dir s.now s.winch.op }

/-- The edge reaches the soft limit. -/
abbrev SoftLimit (dir : Direction) (s : State) : Prop :=
  s.winch.drum = .payOut ∧ dir = .reverse ∧ s.winch.referenced = true ∧
    (fieldsOf s).winch.maxLine ≤ countLine dir (fieldsOf s).winch.lineMmPer100 s.winch.lineOut / 100

theorem drumEdge_soft (soft : SoftLimit dir s) : drumEdge dir s = endOperation .softLimit .atLimitOut (lineCounted dir s) :=
  if_pos soft

theorem drumEdge_goes (goes : ¬ SoftLimit dir s) : drumEdge dir s = lineCounted dir s := if_neg goes

theorem countLine_eq (dir : Direction) (step count : Nat) :
    countLine dir step count = if dir = .forward then count - step else min 3000000 (count + step) := by
  cases dir <;> rfl

theorem edgeWinchDir_eq (dir : Direction) : edgeWinchDir dir = if dir = .forward then .haul else .payOut := by
  cases dir <;> rfl

theorem dirSign_eq (dir : Direction) : dirSign dir = if dir = .forward then 1 else -1 := by cases dir <;> rfl

end Sys2Proof.WheelDrive
end

section
/-! THEOREM. Encoder edges are captured, counted as line and time out; a lost encoder is recorded and recovered (O49). -/

namespace Sys2Proof.WheelDrive

open Sys2Proof Sys2Proof.Machine Sys2Proof.Safety Sys2Proof.NodeControl Sys2Proof.CommandIntake

set_option Elab.async false

variable {s t : State} {dir : Direction} {interval : Nat}

theorem execEncoderEdge_corner (corner : roleOf s = .corner) :
    execEncoderEdge dir interval s = .next (countRecovery dir (edgeTaken dir interval s)) := by
  rw [← setDrive_captureEdge]
  unfold execEncoderEdge
  rw [corner]

theorem execEncoderEdge_winch (winch : roleOf s = .winch) :
    execEncoderEdge dir interval s = .next (settle (drumEdge dir (edgeTaken dir interval s))) := by
  rw [← setDrive_captureEdge]
  unfold execEncoderEdge
  rw [winch]
  rfl

theorem execEncoderEdge_other (corner : roleOf s ≠ .corner) (winch : roleOf s ≠ .winch) :
    execEncoderEdge dir interval s = .next s := by
  unfold execEncoderEdge
  cases role : roleOf s with
  | corner => exact absurd role corner
  | winch => exact absurd role winch
  | plain | unplaced => rfl

/-- An edge of the drum changes what the end of an operation may, whether it ends one or not. -/
theorem sameButEntry_drumEdge (dir : Direction) (s : State) : SameButEntry (lineCounted dir s) (drumEdge dir s) := by
  by_cases soft : SoftLimit dir s
  · rw [drumEdge_soft soft]
    have braked : SameButEntry (lineCounted dir s) (brakeBridgeA (lineCounted dir s)) := rfl
    exact sameButEntry_trans braked (sameButEntry_of_drum (sameButDrum_endOperation _ _ _))
  · rw [drumEdge_goes soft]
    rfl

/-- A pay-out that reaches the soft limit ends in AT_LIMIT_OUT, logged, with bridge A braked (R158). -/
theorem drumEdge_soft_spec (soft : SoftLimit dir s) (ended : SameButReport (drumEdge dir s) t) :
    t.winch.drum = .atLimitOut ∧ t.winch.op = none ∧ BrakedAtOnce s t ∧
      t.winch.log = endedLog (markFirstEdge dir s.now s.winch.op) .softLimit (lineCounted dir s) := by
  rw [drumEdge_soft soft] at ended
  have changes := sameButDrum_endOperation .softLimit .atLimitOut (lineCounted dir s)
  have winch : t.winch = (endOperation .softLimit .atLimitOut (lineCounted dir s)).winch := by rw [ended]
  have bridge : t.bridgeA = s.bridgeA.force (safeModeA s) 0 := by
    rw [ended]
    unfold SameButDrum at changes
    rw [changes]
    rfl
  have drive : t.drive = { s.drive with ramped := 0, integrator := 0 } := by
    rw [ended]
    unfold SameButDrum at changes
    rw [changes]
    rfl
  unfold BrakedAtOnce
  rw [winch, bridge, drive]
  exact ⟨endOperation_drum, endOperation_op, ⟨rfl, rfl, rfl, rfl⟩, endOperation_log (.inr soft.1)⟩

/-- The log's newest record is of the operation that ended. -/
theorem endedLog_head (dir : Direction) (o : OperationRecord) (s : State) :
    (endedLog (markFirstEdge dir s.now (some o)) .softLimit (lineCounted dir s)).head?.map
        (fun l => (l.dir, l.reason, l.lineOut)) =
      some (o.dir, .softLimit, countLine dir (fieldsOf s).winch.lineMmPer100 s.winch.lineOut / 100) := by
  have dir_eq : (if o.dir = edgeWinchDir dir then { o with firstEdge := o.firstEdge.or (some s.now) }
      else { o with otherEdge := o.otherEdge.or (some s.now) }).dir = o.dir := by split <;> rfl
  exact congrArg (fun x => some (x, EndReason.softLimit, _)) dir_eq

theorem sameButEntry_winchEdge (settled : SameButReport (drumEdge dir s) t) : SameButEntry (lineCounted dir s) t :=
  sameButEntry_trans (sameButEntry_drumEdge dir s) (sameButEntry_of_report settled)

/-- The captures and the line-out count stand, whatever else the edge brings. -/
theorem winchEdge_captured (entry : SameButEntry (lineCounted dir (edgeTaken dir interval s)) t) :
    t.drive.latest = (edgeTaken dir interval s).drive.latest ∧
    t.drive.previous = (edgeTaken dir interval s).drive.previous ∧
    t.drive.lastEdge = (edgeTaken dir interval s).drive.lastEdge ∧ t.drive.lossWatch = 0 ∧
    t.winch.lineOut = countLine dir (fieldsOf s).winch.lineMmPer100 s.winch.lineOut := by
  unfold SameButEntry at entry
  rw [entry]
  exact ⟨rfl, rfl, rfl, rfl, rfl⟩

theorem markFirstEdge_eq (dir : Direction) (now : Nat) (op : Option OperationRecord) : markFirstEdge dir now op =
    op.map fun o => if o.dir = (if dir = .forward then .haul else .payOut) then
        { o with firstEdge := o.firstEdge.or (some now) }
      else { o with otherEdge := o.otherEdge.or (some now) } := by
  unfold markFirstEdge
  rw [edgeWinchDir_eq]

/-- Settles O49: an edge by role, a corner by the recovery count and the winch position by what an operation's end changes. -/
theorem encoderEdgesAndLoss : Obligations.EncoderEdgesAndLoss := by
  refine ⟨fun dir interval s => ?edge, fun s => ⟨_, rfl, rfl⟩, fun s => ?lost, fun s => ⟨_, rfl, rfl⟩,
    fun s => ⟨_, rfl, rfl⟩, fun s => ⟨_, rfl, rfl, rfl, rfl, rfl, rfl, rfl, rfl, rfl, rfl, rfl, rfl⟩⟩
  case edge =>
    by_cases corner : roleOf s = .corner
    · refine ⟨_, execEncoderEdge_corner corner, ?_⟩
      generalize counted : countRecovery dir (edgeTaken dir interval s) = t
      obtain ⟨changes, recovery, integrator⟩ := countRecovery_spec rfl counted
      have latest : t.drive.latest = (edgeTaken dir interval s).drive.latest := by rw [changes]
      have previous : t.drive.previous = (edgeTaken dir interval s).drive.previous := by rw [changes]
      have lastEdge : t.drive.lastEdge = (edgeTaken dir interval s).drive.lastEdge := by rw [changes]
      have lossWatch : t.drive.lossWatch = 0 := by rw [changes]; rfl
      have whole : t = { s with drive := { s.drive with
          latest := t.drive.latest, previous := t.drive.previous, lastEdge := t.drive.lastEdge, lossWatch := 0
          encoderLost := t.drive.encoderLost, recovery := t.drive.recovery, integrator := t.drive.integrator } } := by
        rw [latest, previous, lastEdge]
        exact changes
      refine ⟨?_, ?_⟩
      · unfold SameButEntry
        rw [whole]
      intro same counts soft sign
      rw [if_neg fun elsewhere => elsewhere.1 corner, if_pos corner]
      exact ⟨latest, previous, lastEdge, lossWatch, whole, by rwa [dirSign_eq] at recovery, integrator⟩
    by_cases winch : roleOf s = .winch
    · refine ⟨_, execEncoderEdge_winch winch, ?_⟩
      have settled := sameButReport_settle (drumEdge dir (edgeTaken dir interval s))
      generalize settle (drumEdge dir (edgeTaken dir interval s)) = t at settled ⊢
      have entry := sameButEntry_winchEdge settled
      obtain ⟨latest, previous, lastEdge, lossWatch, lineOut⟩ := winchEdge_captured entry
      refine ⟨?_, ?_⟩
      · unfold SameButEntry at entry ⊢
        rw [entry]
        rfl
      intro same counts soft sign
      have counted : countLine dir (fieldsOf s).winch.lineMmPer100 s.winch.lineOut = counts := countLine_eq dir _ _
      have reach : SoftLimit dir (edgeTaken dir interval s) ↔ soft := by
        simp only [soft, ← counted]
        exact Iff.rfl
      rw [if_neg fun elsewhere => elsewhere.2 winch, if_neg corner]
      refine ⟨latest, previous, lastEdge, lossWatch, lineOut.trans counted, ?_⟩
      by_cases reached : soft
      · rw [if_pos reached]
        obtain ⟨drum, op, ⟨active, next, ramped, integrator⟩, log⟩ := drumEdge_soft_spec (reach.2 reached) settled
        refine ⟨drum, op, active, next, ramped, integrator, fun o own => ?_⟩
        have operation : (edgeTaken dir interval s).winch.op = some o := own
        rw [log, operation, endedLog_head, ← counted]
        rfl
      · rw [if_neg reached]
        rw [drumEdge_goes fun soft => reached (reach.1 soft)] at settled
        refine ⟨by rw [settled]; rfl, ?_⟩
        rw [latest, previous, lastEdge, ← markFirstEdge_eq, ← counted]
        exact settled
    · refine ⟨s, execEncoderEdge_other corner winch, rfl, ?_⟩
      intro same counts soft sign
      rw [if_pos ⟨corner, winch⟩]
  case lost =>
    by_cases loses : roleOf s = .corner ∧ s.drive.encoderLost = false
    · refine ⟨settle (loseEncoder s), if_pos loses, ?_⟩
      rw [if_pos loses]
      have changes := sameButReport_trans (sameButReport_loseEncoder s) (sameButReport_settle _)
      generalize settle (loseEncoder s) = t at changes
      have drive : t.drive = (encoderDropped s).drive := by rw [changes]
      have faults : t.monitor.faults = (encoderDropped s).monitor.faults := by rw [changes]
      refine ⟨drive, faults, ?_⟩
      rw [drive, faults]
      exact changes
    · exact ⟨s, if_neg loses, by rw [if_neg loses]⟩

end Sys2Proof.WheelDrive
end

section
/-! SUPPORT. The trips of the two bridges (R144, R145, R197) and the withdrawals they lead to (R193). -/

namespace Sys2Proof.WheelDrive

open Sys2Proof Sys2Proof.Machine Sys2Proof.Safety Sys2Proof.NodeControl Sys2Proof.CommandIntake

set_option Elab.async false

variable {s t w : State}

/-! ## The trips of the last second and their record -/

/-- The trips of the last 1000 ms. -/
abbrev recentTrips (now : Nat) (history : List Nat) : List Nat := history.filter fun x => now - x ≤ 1000

/-- The record of a trip: its count in the last second, at most 3 (R144, R200). -/
def tripRecord (output : FaultOutput) (before : Nat) (s : State) : FaultRecord :=
  { kind := .overcurrent, output, state := s.node.state, uptime := s.node.uptime, detail := min 3 (before + 1) }

/-- The state with a trip recorded, its event apart. -/
def tripRecorded (output : FaultOutput) (before : Nat) (s : State) : State :=
  { s with monitor := { s.monitor with faults := (tripRecord output before s :: s.monitor.faults).take 8 } }

theorem sameButReport_addTrip {output : FaultOutput} {before : Nat} {detail : Int} (capped : detail = min 3 ((before : Int) + 1)) :
    SameButReport (tripRecorded output before s) (addFault .overcurrent output detail s) := by
  have inRange : clampInt (-32768) 32767 detail = min 3 ((before : Int) + 1) := by
    rw [← capped]
    exact clampInt_eq_self _ _ _ (by omega)
  unfold tripRecorded tripRecord
  rw [← inRange]
  exact Steering.sameButReport_raiseEvent _ _

/-! ## A trip of bridge A (R144) -/

/-- The state after the first or second trip of bridge A, its record apart. -/
def trippedA (s : State) : State :=
  { s with
    bridgeA := s.bridgeA.force .off 0
    drive := { s.drive with
      ramped := 0, integrator := 0, tripWait := some (s.now + 100)
      tripHistory := recentTrips s.now s.drive.tripHistory ++ [s.now] }
    winch := { s.winch with stallWindow := none, integrator := 0 } }

theorem sameButReport_tripA (few : ¬ 2 ≤ (recentTrips s.now s.drive.tripHistory).length) :
    SameButReport (tripRecorded .bridgeA (recentTrips s.now s.drive.tripHistory).length (trippedA s)) (tripA s) := by
  have tripped : tripA s = addFault .overcurrent .bridgeA ((recentTrips s.now s.drive.tripHistory).length + 1)
    (trippedA s) := if_neg few
  rw [tripped]
  exact sameButReport_addTrip (by omega)

/-! ## The withdrawal of bridge A (R145, R193) -/

/-- The hold of a bridge A that withdraws: BRAKE where its low sides tested good on a driving role. -/
def withdrawalHold (s : State) : BridgeMode :=
  if (s.monitor.record.bridgeA = .ok ∨ s.monitor.record.bridgeA = .opened ∨ s.monitor.record.bridgeA = .shortGnd ∨
      s.monitor.record.bridgeA = .lowR) ∧ (roleOf s = .corner ∨ roleOf s = .winch) then .brake else .off

/-- The state with bridge A withdrawn by trips, the drum and the record apart. -/
def withdrawnA (s : State) : State :=
  { s with
    bridgeA := s.bridgeA.force (withdrawalHold s) 0
    drive := { s.drive with wheelLost := true, tripHistory := [], tripWait := none, ramped := 0, integrator := 0 }
    monitor := { s.monitor with
      withdrawn := { s.monitor.withdrawn with bridgeA := true }, holdA := some (withdrawalHold s) } }

/-- Bridge A withdrawn by trips, its record apart. -/
def withdrawnByTrips (s : State) : State :=
  if roleOf s = .winch then setDrum .withdrawn (offBridgeB (closeOperation .fault (withdrawnA s))) else withdrawnA s

theorem withdrawByTrips_eq (s : State) :
    withdrawByTrips s = addFault .overcurrent .bridgeA 3 (withdrawnByTrips s) := by
  have hold : (if (decide (s.monitor.record.bridgeA = .ok) || s.monitor.record.bridgeA = .opened ||
      s.monitor.record.bridgeA = .shortGnd || s.monitor.record.bridgeA = .lowR) &&
        (decide (roleOf s = .corner) || roleOf s = .winch) then BridgeMode.brake else .off) = withdrawalHold s := by
    refine if_congr ?_ rfl rfl
    simp only [Bool.and_eq_true, Bool.or_eq_true, decide_eq_true_eq, or_assoc]
  unfold withdrawnByTrips withdrawnA
  rw [← hold]
  rfl

/-- On the winch position the drum goes to WITHDRAWN with bridge B OFF; elsewhere bridge B stands. -/
theorem withdrawnByTrips_changes (s : State) : SameButDrum
    { withdrawnA s with
      bridgeB := (withdrawnByTrips s).bridgeB, steer := { s.steer with loop := (withdrawnByTrips s).steer.loop } }
    (withdrawnByTrips s) := by
  unfold withdrawnByTrips
  split
  · have changes := (sameButDrum_closeOperation .fault (withdrawnA s)).offBridgeB.trans
      (sameButDrum_setDrum .withdrawn _)
    unfold SameButDrum at changes ⊢
    rw [changes]
    rfl
  · rfl

theorem withdrawnByTrips_winch (winch : roleOf s = .winch) :
    (withdrawnByTrips s).winch.drum = .withdrawn ∧ (withdrawnByTrips s).winch.op = none ∧
      (withdrawnByTrips s).bridgeB.active = ⟨.off, 0⟩ := by
  obtain ⟨log, closed⟩ := closeOperation_eq .fault (withdrawnA s)
  unfold withdrawnByTrips
  rw [if_pos winch, closed]
  refine ⟨setDrum_drum _ _, (setDrum_op _ _).trans rfl, ?_⟩
  rw [(sameButDrum_setDrum _ _).bridgeB]
  rfl

theorem sameButReport_withdrawByTrips {before : Nat} (third : 2 ≤ before) :
    SameButReport (tripRecorded .bridgeA before (withdrawnByTrips s)) (withdrawByTrips s) := by
  rw [withdrawByTrips_eq]
  exact sameButReport_addTrip (by omega)

/-! ## A trip of bridge B (R197) -/

/-- The state after a trip of bridge B, the drum, a withdrawal and the record apart. -/
def trippedB (s : State) : State :=
  { s with
    bridgeB := s.bridgeB.force .off 0, steer := { s.steer with loop := false }
    monitor := { s.monitor with
      tripWait := some (s.now + 100)
      tripHistory := if 2 ≤ (recentTrips s.now s.monitor.tripHistory).length then []
        else recentTrips s.now s.monitor.tripHistory ++ [s.now] } }

/-- A trip of bridge B ends FREESPOOL (R160). -/
def spoolEnded (s : State) : State :=
  if s.winch.drum = .freespool then setDrum .braked (trippedB s) else trippedB s

theorem spoolEnded_changes (s : State) : SameButDrum (trippedB s) (spoolEnded s) := .ite (sameButDrum_setDrum _ _) (.refl _)

theorem spoolEnded_drum (s : State) :
    (spoolEnded s).winch.drum = if s.winch.drum = .freespool then .braked else s.winch.drum := by
  unfold spoolEnded
  split
  · exact setDrum_drum _ _
  · rfl

theorem spoolEnded_not_freespool (s : State) : (spoolEnded s).winch.drum ≠ .freespool := by
  rw [spoolEnded_drum]
  split
  · decide
  · assumption

/-- The state with bridge B withdrawn. -/
def withdrawnB (s : State) : State :=
  offBridgeB (s.setMonitor { s.monitor with withdrawn := { s.monitor.withdrawn with bridgeB := true } })

/-- FREESPOOL has ended before the withdrawal. -/
theorem withdrawB_of_ne (ended : s.winch.drum ≠ .freespool) : withdrawB s = withdrawnB s := if_neg ended

theorem sameButReport_tripB_third (third : 2 ≤ (recentTrips s.now s.monitor.tripHistory).length) :
    SameButReport (tripRecorded .bridgeB (recentTrips s.now s.monitor.tripHistory).length (withdrawnB (spoolEnded s)))
      (tripB s) := by
  have tripped : tripB s = addFault .overcurrent .bridgeB 3 (withdrawB (spoolEnded s)) := if_pos third
  rw [tripped, withdrawB_of_ne (spoolEnded_not_freespool s)]
  exact sameButReport_addTrip (by omega)

theorem sameButReport_tripB_few (few : ¬ 2 ≤ (recentTrips s.now s.monitor.tripHistory).length) :
    SameButReport (tripRecorded .bridgeB (recentTrips s.now s.monitor.tripHistory).length (spoolEnded s)) (tripB s) := by
  have tripped : tripB s = addFault .overcurrent .bridgeB ((recentTrips s.now s.monitor.tripHistory).length + 1)
    (spoolEnded s) := if_neg few
  rw [tripped]
  exact sameButReport_addTrip (by omega)

end Sys2Proof.WheelDrive
end

section
/-! THEOREM. An overcurrent puts its bridge OFF for 100 ms, and the third trip in a second withdraws it (O50). -/

namespace Sys2Proof.WheelDrive

open Sys2Proof Sys2Proof.Machine Sys2Proof.Safety Sys2Proof.NodeControl Sys2Proof.CommandIntake

set_option Elab.async false

variable {s t : State} {current : Nat}

/-- A trip of bridge A is taken: no test step of bridge A is under way (R144, log 45). -/
abbrev TripsA (current : Nat) (s : State) : Prop :=
  2 * (fieldsOf s).power.nodeCap < current ∧ s.bridgeA.active.mode ≠ .off ∧ s.drive.tripWait = none ∧
    s.monitor.withdrawn.bridgeA = false ∧ (s.monitor.waiting = true ∨
      (s.monitor.position ≠ some .pullDownA ∧ s.monitor.position ≠ some .pullUpA ∧ s.monitor.position ≠ some .loadA))

theorem testHoldsA_false_iff : testHoldsA s = false ↔ s.monitor.waiting = true ∨
    (s.monitor.position ≠ some .pullDownA ∧ s.monitor.position ≠ some .pullUpA ∧ s.monitor.position ≠ some .loadA) := by
  rw [← Bool.not_eq_true, testHoldsA_iff, not_and_or, Bool.not_eq_false, not_or, not_or]

theorem execOvercurrentTrip_trips (trips : TripsA current s) : execOvercurrentTrip current s = .next (settle (tripA s)) := by
  obtain ⟨above, drives, free, serves, untested⟩ := trips
  exact if_pos ⟨above, drives, free, testHoldsA_false_iff.2 untested, serves⟩

theorem execOvercurrentTrip_stands (stands : ¬ TripsA current s) : execOvercurrentTrip current s = .next s := by
  refine if_neg ?_
  rintro ⟨above, drives, free, untested, serves⟩
  exact stands ⟨above, drives, free, serves, testHoldsA_false_iff.1 untested⟩

/-- The third trip of bridge A within a second (R145, R193). -/
theorem thirdTripA (third : 2 ≤ (recentTrips s.now s.drive.tripHistory).length) (report : SameButReport (tripA s) t) :
    t.drive = (withdrawnA s).drive ∧ t.node.state = s.node.state ∧
    t.monitor = (tripRecorded .bridgeA (recentTrips s.now s.drive.tripHistory).length (withdrawnA s)).monitor ∧
    t.bridgeA = (withdrawnA s).bridgeA ∧ t.winch = (withdrawnByTrips s).winch ∧
    t.bridgeB = (withdrawnByTrips s).bridgeB ∧ SameButEntry (withdrawnA s) t := by
  have tripped : tripA s = withdrawByTrips s := if_pos third
  rw [tripped] at report
  have changes := withdrawnByTrips_changes s
  have report := sameButReport_trans (sameButReport_withdrawByTrips third) report
  generalize withdrawnByTrips s = w at changes report ⊢
  unfold SameButDrum at changes
  unfold SameButEntry
  rw [report]
  refine ⟨?_, ?_, ?_, ?_, rfl, rfl, ?_⟩ <;> rw [changes] <;> rfl

/-- A trip of bridge B is taken. -/
abbrev TripsB (current : Nat) (s : State) : Prop :=
  40 < current ∧ s.bridgeB.active.mode ≠ .off ∧ s.monitor.position = none

/-- What a trip of bridge B leaves (R197). -/
structure TrippedB (s t : State) : Prop where
  active : t.bridgeB.active = ⟨.off, 0⟩
  next : t.bridgeB.next = ⟨.off, 0⟩
  loop : t.steer.loop = false
  tripWait : t.monitor.tripWait = some (s.now + 100)
  tripHistory : t.monitor.tripHistory = (trippedB s).monitor.tripHistory
  withdrawn : t.monitor.withdrawn = { s.monitor.withdrawn with
    bridgeB := s.monitor.withdrawn.bridgeB || decide (2 ≤ (recentTrips s.now s.monitor.tripHistory).length) }
  drum : t.winch.drum = if s.winch.drum = .freespool then .braked else s.winch.drum
  faults : t.monitor.faults =
    (tripRecord .bridgeB (recentTrips s.now s.monitor.tripHistory).length s :: s.monitor.faults).take 8
  bridgeA : t.bridgeA = s.bridgeA
  state : t.node.state = s.node.state
  entry : SameButEntry (trippedB s) t

theorem trippedB_third (third : 2 ≤ (recentTrips s.now s.monitor.tripHistory).length) (report : SameButReport (tripB s) t) :
    TrippedB s t := by
  have report := sameButReport_trans (sameButReport_tripB_third third) report
  have changes := spoolEnded_changes s
  have drum := spoolEnded_drum s
  generalize spoolEnded s = w at report changes drum
  unfold SameButDrum at changes
  constructor
  case withdrawn => rw [report, changes, decide_eq_true third, Bool.or_true]; rfl
  case drum => rw [report]; exact drum
  case entry => unfold SameButEntry; rw [report, changes]; rfl
  all_goals rw [report, changes]; rfl

theorem trippedB_few (few : ¬ 2 ≤ (recentTrips s.now s.monitor.tripHistory).length) (report : SameButReport (tripB s) t) :
    TrippedB s t := by
  have report := sameButReport_trans (sameButReport_tripB_few few) report
  have changes := spoolEnded_changes s
  have drum := spoolEnded_drum s
  generalize spoolEnded s = w at report changes drum
  unfold SameButDrum at changes
  constructor
  case withdrawn => rw [report, changes, decide_eq_false few, Bool.or_false]; rfl
  case drum => rw [report]; exact drum
  case entry => unfold SameButEntry; rw [report, changes]; rfl
  all_goals rw [report, changes]; rfl

theorem tripB_leaves (report : SameButReport (tripB s) t) : TrippedB s t := by
  by_cases third : 2 ≤ (recentTrips s.now s.monitor.tripHistory).length
  · exact trippedB_third third report
  · exact trippedB_few third report

/-- Settles O50: a trip of bridge A by its count in the last second, one of bridge B by what every trip of it leaves. -/
theorem overcurrentTripsTheBridges : Obligations.OvercurrentTripsTheBridges := by
  refine ⟨fun current s => ?tripA, fun current s => ?tripB, fun s => ⟨_, rfl, rfl⟩⟩
  case tripA =>
    by_cases trips : TripsA current s
    · refine ⟨_, execOvercurrentTrip_trips trips, ?_⟩
      have report := sameButReport_settle (tripA s)
      generalize settle (tripA s) = t at report ⊢
      by_cases third : 2 ≤ (recentTrips s.now s.drive.tripHistory).length
      · obtain ⟨drive, state, monitor, bridgeA, winch, bridgeB, entry⟩ := thirdTripA third report
        refine ⟨?_, ?_⟩
        · rw [drive]
          unfold SameButEntry at entry ⊢
          rw [entry]
          rfl
        intro recent good hold
        rw [if_pos trips, if_pos third, drive, monitor, bridgeA, winch, bridgeB]
        exact ⟨rfl, rfl, state, rfl, rfl, rfl, rfl, rfl, rfl, rfl, rfl, withdrawnByTrips_winch⟩
      · have changes := sameButReport_trans (sameButReport_tripA third) report
        refine ⟨?_, ?_⟩
        · unfold SameButEntry
          rw [changes]
          rfl
        intro recent good hold
        rw [if_pos trips, if_neg third, changes]
        exact ⟨rfl, rfl, rfl, rfl, rfl, rfl, rfl, rfl, rfl, rfl, rfl, rfl, rfl⟩
    · refine ⟨s, execOvercurrentTrip_stands trips, rfl, ?_⟩
      intro recent good hold
      rw [if_neg trips]
  case tripB =>
    by_cases trips : TripsB current s
    · have left := tripB_leaves (sameButReport_settle (tripB s))
      refine ⟨_, if_pos trips, ?_⟩
      generalize settle (tripB s) = t at left ⊢
      refine ⟨?_, ?_⟩
      · have entry := left.entry
        unfold SameButEntry at entry ⊢
        rw [entry]
        rfl
      intro recent
      rw [if_pos trips]
      exact ⟨left.active, left.next, left.loop, left.tripWait, left.tripHistory, left.withdrawn, left.drum, left.faults,
        left.bridgeA, left.state⟩
    · refine ⟨s, if_neg trips, rfl, ?_⟩
      intro recent
      rw [if_neg trips]

end Sys2Proof.WheelDrive
end

section
/-! SUPPORT. The drum loop of HAUL_IN and PAY_OUT (R157, R165), and the control ticks that leave the drum in one of them (R156). -/

namespace Sys2Proof.WheelDrive

open Sys2Proof Sys2Proof.Machine Sys2Proof.Safety Sys2Proof.NodeControl Sys2Proof.CommandIntake

set_option Elab.async false

variable {s t x y : State} {dir : WinchDir} {isa isb : Nat} {before : Int}

/-! ## The target (R150, R165) -/

theorem capOf_eq (s : State) (dir : WinchDir) : (if dir = .haul then governorCap s else none) = capOf s dir := by
  unfold governorCap capOf
  cases dir with
  | haul => simp only [reduceIte, true_and]
  | payOut => rfl

theorem speedOf_eq (s : State) (dir : WinchDir) :
    governedSpeed (leverSpeed (fieldsOf s).winch.speedMax (presented s).lever) (capOf s dir) = speedOf s dir := by
  unfold governedSpeed speedOf
  cases capOf s dir <;> rfl

/-- The target formed: speed, counts per second with the direction's sign, and cap. -/
def drumAimed (dir : WinchDir) (s : State) : State :=
  { s with winch := { s.winch with speedTarget := speedOf s dir, targetCps := cpsOf s dir, cap := capOf s dir } }

theorem setDrumTarget_eq (dir : WinchDir) (s : State) : setDrumTarget dir s = drumAimed dir s := by
  unfold setDrumTarget
  dsimp only
  rw [capOf_eq, speedOf_eq]
  rfl

/-! ## The loop (R157) -/

/-- The figures of a loop tick in a direction, with the integrator before it. -/
def drumError (dir : WinchDir) (s : State) : Int := cpsOf s dir - s.drive.measured

def drumIntegrator (dir : WinchDir) (before : Int) (s : State) : Int :=
  clampInt (-1000) 1000 (before + rdiv (drumError dir s * (fieldsOf s).drive.ki) 64)

def drumRaw (dir : WinchDir) (before : Int) (s : State) : Int :=
  rdiv (cpsOf s dir * (fieldsOf s).drive.kf) 1024 + rdiv (drumError dir s * (fieldsOf s).drive.kp) 64 +
    drumIntegrator dir before s

def drumCeilingAfter (isa : Nat) (s : State) : Nat := moveCeiling isa s.power.grants.bridgeA s.winch.drumCeiling

def drumDuty (dir : WinchDir) (isa : Nat) (before : Int) (s : State) : Int :=
  clampInt (-(drumCeilingAfter isa s : Int)) (drumCeilingAfter isa s) (drumRaw dir before s)

/-- `t` is left by a tick of the drum loop on `s` in a direction, with the integrator `before` it. -/
structure LoopTurned (dir : WinchDir) (isa : Nat) (before : Int) (s t : State) : Prop where
  speed : t.winch.speedTarget = speedOf s dir
  target : t.winch.targetCps = cpsOf s dir
  cap : t.winch.cap = capOf s dir
  waits : s.drive.tripWait ≠ none →
    t.winch.integrator = 0 ∧ t.winch.drumCeiling = s.winch.drumCeiling ∧ t.bridgeA = s.bridgeA
  turns : ¬ s.drive.tripWait ≠ none →
    t.winch.integrator = drumIntegrator dir before s ∧ t.winch.drumCeiling = drumCeilingAfter isa s ∧
    t.winch.drumLimited = (s.winch.drumLimited || decide (drumDuty dir isa before s ≠ drumRaw dir before s)) ∧
    t.bridgeA = { s.bridgeA with next := drumSetting dir (drumDuty dir isa before s) }

theorem loopTurned_drumLoop (dir : WinchDir) (isa : Nat) (s : State) :
    LoopTurned dir isa s.winch.integrator s (drumLoop dir isa (setDrumTarget dir s)) := by
  rw [setDrumTarget_eq]
  by_cases wait : s.drive.tripWait ≠ none
  · have looped : drumLoop dir isa (drumAimed dir s) = _ := if_pos (Option.isSome_iff_ne_none.2 wait)
    rw [looped]
    exact ⟨rfl, rfl, rfl, fun _ => ⟨rfl, rfl, rfl⟩, fun free => absurd wait free⟩
  · have looped : drumLoop dir isa (drumAimed dir s) = _ := if_neg fun some => wait (Option.isSome_iff_ne_none.1 some)
    rw [looped]
    exact ⟨rfl, rfl, rfl, fun held => absurd held wait, fun _ => ⟨rfl, rfl, rfl, rfl⟩⟩

theorem drumLoop_drum (dir : WinchDir) (isa : Nat) (s : State) : (drumLoop dir isa s).winch.drum = s.winch.drum := by
  unfold drumLoop
  split <;> rfl

/-! ## The tick of a running drum, with its stall watch (R157, R159) -/

/-- The stall watch moves its window alone, or ends the operation in STALLED. -/
theorem watchDrum_cases (isa : Nat) (s : State) : (watchDrum isa s).winch.drum = .stalled ∨
    ∃ stallWindow, watchDrum isa s = s.setWinch { s.winch with stallWindow } := by
  unfold watchDrum
  split
  · cases window : s.winch.stallWindow with
    | none => exact .inr ⟨_, rfl⟩
    | some since =>
      dsimp only
      split
      · exact .inl endOperation_drum
      · exact .inr ⟨s.winch.stallWindow, rfl⟩
  · exact .inr ⟨_, rfl⟩

/-- A tick of a running drum whose lever keeps its direction. -/
def runTick (dir : WinchDir) (isa : Nat) (s : State) : State :=
  if dir = .haul then watchDrum isa (drumLoop dir isa (setDrumTarget dir s)) else drumLoop dir isa (setDrumTarget dir s)

theorem fromRunning_eq (dir : WinchDir) (isa : Nat) (s : State) : fromRunning dir isa s =
    if leverRequest (presented s).lever = some dir then runTick dir isa s else endOperation .lever .braked s := rfl

/-- An entered state runs its loop in the same tick (log 19). -/
theorem runEntered_eq (entered : s.winch.drum = runState dir) :
    runEntered isa (setDrumTarget dir s) = runTick dir isa s := by
  unfold runEntered runTick
  have drum : (setDrumTarget dir s).winch.drum = runState dir := entered
  rw [drum]
  cases dir <;> rfl

theorem LoopTurned.stallWindow (turned : LoopTurned dir isa before s t) (stallWindow : Option Nat) :
    LoopTurned dir isa before s (t.setWinch { t.winch with stallWindow }) :=
  ⟨turned.speed, turned.target, turned.cap, turned.waits, turned.turns⟩

/-- `t` runs on in a direction. -/
def Runs (dir : WinchDir) (isa : Nat) (before : Int) (s t : State) : Prop :=
  t.winch.drum = runState dir ∧ LoopTurned dir isa before s t

theorem runs_runTick (entered : s.winch.drum = runState dir) (left : isRunningDrum (runTick dir isa s).winch.drum = true) :
    Runs dir isa s.winch.integrator s (runTick dir isa s) := by
  have drum : (drumLoop dir isa (setDrumTarget dir s)).winch.drum = runState dir := (drumLoop_drum _ _ _).trans entered
  have turned := loopTurned_drumLoop dir isa s
  unfold runTick at left ⊢
  split
  next haul =>
    rw [if_pos haul] at left
    rcases watchDrum_cases isa (drumLoop dir isa (setDrumTarget dir s)) with stalled | ⟨window, moved⟩
    · exact absurd left (by rw [stalled]; decide)
    · rw [moved]
      exact ⟨drum, turned.stallWindow window⟩
  next => exact ⟨drum, turned⟩

/-! ## The states a loop reads alike -/

/-- `y` is `s` in all that a loop tick reads: pins, bus, event mark and the winch unit apart, but for the ceiling of its
loop; a next setting of bridge A stands in a trip wait. -/
structure LoopsAlike (s y : State) : Prop where
  same : y = { s with
    pins := y.pins, node := { s.node with eventDue := y.node.eventDue }, bus := y.bus
    bridgeA := { s.bridgeA with next := y.bridgeA.next }
    winch := { y.winch with drumCeiling := s.winch.drumCeiling, drumLimited := s.winch.drumLimited } }
  next : s.drive.tripWait ≠ none → y.bridgeA.next = s.bridgeA.next

theorem LoopTurned.alike (turned : LoopTurned dir isa before y t) (alike : LoopsAlike s y) : LoopTurned dir isa before s t := by
  obtain ⟨same, next⟩ := alike
  rw [same] at turned
  refine ⟨turned.speed, turned.target, turned.cap, fun wait => ?_, turned.turns⟩
  obtain ⟨integrator, ceiling, bridge⟩ := turned.waits wait
  refine ⟨integrator, ceiling, bridge.trans ?_⟩
  rw [next wait]

theorem Runs.alike (runs : Runs dir isa before y t) (alike : LoopsAlike s y) : Runs dir isa before s t :=
  ⟨runs.1, runs.2.alike alike⟩

theorem loopsAlike_readControl (isa isb : Nat) (s : State) : LoopsAlike s (readControl isa isb s) := ⟨rfl, fun _ => rfl⟩

theorem LoopsAlike.trans (h : LoopsAlike s x) (k : LoopsAlike x y) : LoopsAlike s y := by
  obtain ⟨same, next⟩ := h
  obtain ⟨same', next'⟩ := k
  have wait : x.drive.tripWait = s.drive.tripWait := by rw [same]
  refine ⟨?_, fun waits => (next' (by rwa [wait])).trans (next waits)⟩
  rw [same] at same'
  exact same'

theorem loopsAlike_restDrum (s : State) : LoopsAlike s (restDrum s) := by
  unfold restDrum
  split
  next => exact ⟨rfl, fun _ => rfl⟩
  next idle =>
    refine ⟨rfl, fun wait => absurd ?_ idle⟩
    rw [Option.isSome_iff_ne_none.2 wait, Bool.or_true]

theorem loopsAlike_of_drum (changes : SameButDrum s y) : LoopsAlike s y := by
  unfold SameButDrum at changes
  exact ⟨by rw [changes], fun _ => by rw [changes]⟩

end Sys2Proof.WheelDrive
end

section
/-! THEOREM. In HAUL_IN and PAY_OUT the drum loop regulates to the lever, under the governor in assist (O52). -/

namespace Sys2Proof.WheelDrive

open Sys2Proof Sys2Proof.Machine Sys2Proof.Safety Sys2Proof.NodeControl Sys2Proof.CommandIntake

set_option Elab.async false

variable {s t u : State} {dir : WinchDir} {isa isb : Nat} {before : Int}

/-! ## Entering a running state (R156) -/

theorem setDrum_integrator {d : DrumState} (changes : s.winch.drum ≠ d) (running : isRunningDrum d = true) :
    (setDrum d s).winch.integrator = 0 := by
  have zeroed : (drumChanged d s.winch).integrator = 0 := if_pos running
  rw [setDrum_of_ne changes, raiseEvent_winch]
  split
  · rw [placeWinch_winch]
    exact zeroed
  · exact zeroed

/-- The state that has entered a running state, its operation's record apart. -/
def runningFrom (dir : WinchDir) (op : Option OperationRecord) (s : State) : State :=
  setDrum (runState dir) (s.setWinch { s.winch with op })

theorem engageEnd_cases (s : State) : (engageEnd s).winch.drum = .braked ∨
    ∃ dir op, engageEnd s = setDrumTarget dir (runningFrom dir op s) := by
  unfold engageEnd
  split
  · exact .inl (setDrum_drum _ _)
  · split
    · exact .inr ⟨_, _, rfl⟩
    · exact .inl (setDrum_drum _ _)

theorem runEntered_braked (braked : s.winch.drum = .braked) : runEntered isa s = s := by
  unfold runEntered
  rw [braked]
  rfl

theorem runs_runningFrom {op : Option OperationRecord} (engaging : s.winch.drum = .engaging)
    (left : isRunningDrum (runTick dir isa (runningFrom dir op s)).winch.drum = true) :
    Runs dir isa 0 s (runTick dir isa (runningFrom dir op s)) := by
  have changes : s.winch.drum ≠ runState dir := by
    rw [engaging]
    cases dir <;> decide
  have zero : (runningFrom dir op s).winch.integrator = 0 :=
    setDrum_integrator (s := s.setWinch { s.winch with op }) changes (by cases dir <;> rfl)
  have runs := runs_runTick (s := runningFrom dir op s) (setDrum_drum _ _) left
  rw [zero] at runs
  have marked : LoopsAlike s (s.setWinch { s.winch with op }) := ⟨rfl, fun _ => rfl⟩
  exact runs.alike (marked.trans (loopsAlike_of_drum (sameButDrum_setDrum _ _)))

theorem fromEngaging_runs (engaging : s.winch.drum = .engaging)
    (left : isRunningDrum (fromEngaging isa s).winch.drum = true) : ∃ dir, Runs dir isa 0 s (fromEngaging isa s) := by
  have stays : ¬ isRunningDrum s.winch.drum = true := by rw [engaging]; decide
  unfold fromEngaging at left ⊢
  split
  next rest =>
    rw [if_pos rest, setDrum_drum] at left
    exact absurd left (by decide)
  next asked =>
    rw [if_neg asked] at left
    cases timer : s.winch.engageTimer with
    | none =>
      rw [timer] at left
      exact absurd left stays
    | some ms =>
      rw [timer] at left
      dsimp only at left ⊢
      split
      next elapsed =>
        rw [if_pos elapsed] at left
        rcases engageEnd_cases s with braked | ⟨dir, op, entered⟩
        · rw [runEntered_braked braked, braked] at left
          exact absurd left (by decide)
        · rw [entered, runEntered_eq (s := runningFrom dir op s) (setDrum_drum _ _)] at left ⊢
          exact ⟨dir, runs_runningFrom engaging left⟩
      next early =>
        rw [if_neg early] at left
        exact absurd left stays

/-! ## Running on (R157) -/

theorem fromRunning_runs (running : s.winch.drum = runState dir)
    (left : isRunningDrum (fromRunning dir isa s).winch.drum = true) :
    Runs dir isa s.winch.integrator s (fromRunning dir isa s) := by
  rw [fromRunning_eq] at left ⊢
  split
  next asked =>
    rw [if_pos asked] at left
    exact runs_runTick running left
  next other =>
    rw [if_neg other, endOperation_drum] at left
    exact absurd left (by decide)

/-! ## The states that no tick leaves for a running one (R155, R158, R160) -/

theorem restDrum_drum (s : State) : (restDrum s).winch.drum = s.winch.drum := by
  unfold restDrum
  split <;> rfl

theorem fromBraked_idle (braked : s.winch.drum = .braked) : isRunningDrum (fromBraked isb s).winch.drum = false := by
  have stays : isRunningDrum s.winch.drum = false := by rw [braked]; rfl
  unfold fromBraked
  dsimp only
  split
  · split
    · have drum : (startFreespool isb s).winch.drum = .freespool := setDrum_drum _ _
      rw [drum]
      rfl
    · exact stays
  · split
    · exact stays
    · have drum {way : WinchDir} : (startEngaging way s).winch.drum = .engaging := setDrum_drum _ _
      rw [drum]
      rfl

theorem fromBlocked_idle (blocked : isRunningDrum s.winch.drum = false) :
    isRunningDrum (fromBlocked dir s).winch.drum = false := by
  unfold fromBlocked
  split
  · exact blocked
  · rw [setDrum_drum]
    rfl

theorem fromFreespool_idle (spools : s.winch.drum = .freespool) :
    isRunningDrum (fromFreespool isb s).winch.drum = false := by
  unfold fromFreespool
  split
  · have drum : (driveSolenoid isb s).winch.drum = s.winch.drum := rfl
    rw [drum, spools]
    rfl
  · rw [setDrum_drum]
    rfl

/-! ## The tick -/

/-- A tick that leaves the drum running, on or just entered, has turned its loop; an entered one from integrator 0. -/
theorem drumTick_runs (left : isRunningDrum (drumTick isa isb s).winch.drum = true) :
    ∃ dir, Runs dir isa (if runState dir = s.winch.drum then s.winch.integrator else 0) s (drumTick isa isb s) := by
  have rested := restDrum_drum s
  unfold drumTick at left ⊢
  cases drum : s.winch.drum with
  | haulIn =>
    rw [drum] at left
    exact ⟨.haul, fromRunning_runs (dir := .haul) drum left⟩
  | payOut =>
    rw [drum] at left
    exact ⟨.payOut, fromRunning_runs (dir := .payOut) drum left⟩
  | engaging =>
    rw [drum] at left
    obtain ⟨dir, runs⟩ := fromEngaging_runs (rested.trans drum) left
    refine ⟨dir, ?_⟩
    rw [if_neg (by cases dir <;> decide)]
    exact runs.alike (loopsAlike_restDrum s)
  | braked =>
    rw [drum] at left
    exact absurd left (Bool.eq_false_iff.1 (fromBraked_idle (rested.trans drum)))
  | stalled | atLimitIn | atLimitOut =>
    rw [drum] at left
    refine absurd left (Bool.eq_false_iff.1 (fromBlocked_idle ?_))
    rw [rested, drum]
    rfl
  | freespool =>
    rw [drum] at left
    exact absurd left (Bool.eq_false_iff.1 (fromFreespool_idle (rested.trans drum)))
  | withdrawn =>
    rw [drum] at left
    refine absurd left (Bool.eq_false_iff.1 ?_)
    rw [rested, drum]
    rfl

theorem drumSetting_eq (dir : WinchDir) (duty : Int) : drumSetting dir duty =
    if dir = .haul ∧ 0 < duty then ⟨.fwd, duty.toNat⟩
    else if dir = .payOut ∧ duty < 0 then ⟨.rev, (-duty).toNat⟩ else ⟨.brake, 0⟩ := by
  cases dir <;> simp [drumSetting]

/-- The direction of a running drum. -/
theorem runState_dir (drum : u.winch.drum = runState dir) : (if u.winch.drum = .haulIn then WinchDir.haul else .payOut) = dir := by
  rw [drum]
  cases dir <;> rfl

theorem execControlTick_run (winch : roleOf s = .winch) (run : s.node.state = .run) :
    execControlTick isa isb s = .next (settle (drumTick isa isb (readControl isa isb s))) :=
  (if_pos winch).trans (if_pos run)

theorem execControlTick_next (isa isb : Nat) (s : State) : ∃ t, execControlTick isa isb s = .next t := by
  unfold execControlTick
  split
  · dsimp only
    split
    · exact ⟨_, rfl⟩
    · exact ⟨_, rfl⟩
  · exact ⟨_, rfl⟩

/-- Settles O52: a drum left running has turned its loop once, in its own direction. -/
theorem drumLoopFollowsTheLever : Obligations.DrumLoopFollowsTheLever := by
  intro isa isb s
  by_cases acts : roleOf s = .winch ∧ s.node.state = .run
  · refine ⟨_, execControlTick_run acts.1 acts.2, ?_⟩
    have ticked := drumTick_runs (isa := isa) (isb := isb) (s := readControl isa isb s)
    have report := sameButReport_settle (drumTick isa isb (readControl isa isb s))
    generalize drumTick isa isb (readControl isa isb s) = u at ticked report
    generalize settle u = t at report ⊢
    have winch : t.winch = u.winch := by rw [report]
    have bridge : t.bridgeA = u.bridgeA := by rw [report]
    intro g dir target err before integ ceiling raw duty left
    have running : isRunningDrum u.winch.drum = true := by
      rw [← winch]
      exact (isRunningDrum_iff _).2 left.2.2
    obtain ⟨way, drum, turned⟩ := ticked running
    have turned := turned.alike (loopsAlike_readControl isa isb s)
    have same : way = dir := by
      simp only [dir, winch]
      exact (runState_dir drum).symm
    subst same
    have start : (if runState dir = s.winch.drum then s.winch.integrator else 0) = before := by
      simp only [before, winch, drum]
    have turned : LoopTurned dir isa before s u := start ▸ turned
    rw [winch, bridge]
    refine ⟨turned.speed, turned.target, turned.cap, ?_⟩
    by_cases wait : s.drive.tripWait ≠ none
    · rw [if_pos wait]
      exact turned.waits wait
    · rw [if_neg wait, ← drumSetting_eq]
      exact turned.turns wait
  · obtain ⟨t, runs⟩ := execControlTick_next isa isb s
    refine ⟨t, runs, ?_⟩
    intro g dir target err before integ ceiling raw duty left
    exact absurd ⟨left.1, left.2.1⟩ acts

end Sys2Proof.WheelDrive
end
